-- ==== Sys2Proof/Word.lean ====
section
/-! DEFINITION. The widths of the block's data, each named once.
The block has no general word size: its registers are 1 to 64 bits wide (spec/10_state.md). -/

namespace Sys2Proof

/-- One byte of the two-wire bus, and every 8-bit register (R25, R33, R62). -/
abbrev Byte := BitVec 8

/-- A calibration pattern or a raw temperature (R21, R31, R103, R104). -/
abbrev Half := BitVec 16

/-- A raw pressure, at most three bytes wide (R31, R105). -/
abbrev Triple := BitVec 24

/-- A 32-bit response register (R36, R38). -/
abbrev Word32 := BitVec 32

/-- A host register or a host command word (R41, R91). -/
abbrev Word64 := BitVec 64

/-- The bit pattern of an IEEE 754 binary64 value (R10, R37, R39). -/
abbrev Binary64 := BitVec 64

/-- The 5-bit index of a host register (R41). -/
abbrev HostIndex := BitVec 5

/-- The calibration file and its stage: eleven 16-bit registers (R21, R30). -/
abbrev CalFile := Vector Half 11

end Sys2Proof
end

