-- ==== Sys2Proof/HostSyntax.lean ====
section
/-! DEFINITION. The host's side of the interface as text: the names of the host registers (spec/10_state.md R41) and the
statements of a host program (spec/30_encoding.md R107, R108). -/

namespace Sys2Proof

/-- R41: the mapped host registers, by name. -/
inductive RegName where
  | cmd
  | status
  | config
  | xfer
  | t10
  | temp
  | press
  | alt
  | calv (i : Fin 11)
  deriving DecidableEq, Repr

/-- R107, R108: one statement of a host program. Operands are unsigned numbers as written; whether each fits its field is
checked by `Statement.wellFormed`. -/
inductive Statement where
  | init (dev mode : Nat)
  | readc
  | gett
  | getp
  | geta
  | comp (ut up mode : Nat)
  | cmd (w : Nat)
  | rd (name : RegName)
  /-- R108: poll STATUS until BUSY = 0. -/
  | wait
  /-- R108: the statement, then WAIT. -/
  | run (op : Statement)
  deriving DecidableEq, Repr

end Sys2Proof
end

