-- ==== Sys2Proof/Syntax.lean ====
section
/-! DEFINITION. The instructions: one constructor for each row of spec/opcode_table.json. -/

namespace Sys2Proof

/-- The six host operations (HCMD, R92) and the two sensor command bytes (SCMD, R99). Each operand has exactly the width
of its field. -/
inductive Instr where
  /-- INIT dev, mode_req (R93, R223). -/
  | init (dev modeReq : Byte)
  /-- READC: one compensated reading (R94, R224). -/
  | readc
  /-- GETT: the temperature-only accessor (R94, R225). -/
  | gett
  /-- GETP: the pressure-only accessor (R94, R226). -/
  | getp
  /-- GETA: the altitude-only accessor (R94, R227). -/
  | geta
  /-- COMP ut, up, mode_req: the pipeline on host-supplied values (R95, R228). -/
  | comp (ut : Half) (up : Triple) (modeReq : Byte)
  /-- READ_TEMP: the byte 0x2E the block writes to CONTROL in T_CMD (R100, R191). -/
  | readTemp
  /-- READ_PRESSURE: the byte 0x34 + (oss << 6) the block writes to CONTROL in P_CMD (R101, R195). -/
  | readPressure (oss : BitVec 2)
  deriving DecidableEq, Repr

end Sys2Proof
end

