-- ==== Sys2Proof/WellFormed.lean ====
section
/-! DEFINITION. What makes a term well formed. An operand of `Instr` has its field's width, so the check on `Instr` holds
of every term; the check that can fail is the one on the statements of a host program, whose operands are numbers:
"An operand too wide for its field is an assembly error, not an encoding" (spec/30_encoding.md R107). -/

namespace Sys2Proof

/-- Every operand fits the field R93, R95 and R101 give it. The mode range is no part of it: MODE_REQ 4..255 is an encoding
that raises ConfigurationError (R96). -/
def Instr.wellFormed : Instr → Bool
  | .init dev modeReq => decide (dev.toNat < 2 ^ 8) && decide (modeReq.toNat < 2 ^ 8)
  | .readc => true
  | .gett => true
  | .getp => true
  | .geta => true
  | .comp ut up modeReq =>
    decide (ut.toNat < 2 ^ 16) && decide (up.toNat < 2 ^ 24) && decide (modeReq.toNat < 2 ^ 8)
  | .readTemp => true
  | .readPressure oss => decide (oss.toNat < 2 ^ 2)

/-- R108: RUN takes a statement that writes CMD. -/
def Statement.writesCmd : Statement → Bool
  | .init _ _ => true
  | .readc => true
  | .gett => true
  | .getp => true
  | .geta => true
  | .comp _ _ _ => true
  | .cmd _ => true
  | .rd _ => false
  | .wait => false
  | .run _ => false

/-- R107: each operand fits its field of R93 or R95, a literal word fits CMD's 64 bits; R108: RUN takes a command. -/
def Statement.wellFormed : Statement → Bool
  | .init dev mode => decide (dev < 2 ^ 8) && decide (mode < 2 ^ 8)
  | .readc => true
  | .gett => true
  | .getp => true
  | .geta => true
  | .comp ut up mode => decide (ut < 2 ^ 16) && decide (up < 2 ^ 24) && decide (mode < 2 ^ 8)
  | .cmd w => decide (w < 2 ^ 64)
  | .rd _ => true
  | .wait => true
  | .run op => op.writesCmd && op.wellFormed

end Sys2Proof
end

