-- ==== Sys2Proof/Decode.lean ====
section
/-! DEFINITION. The encodings of spec/30_encoding.md: the host command word (HCMD) and the sensor command byte (SCMD), each
decoded by a total function that rejects by name; the encoder written from the same tables; and the three data formats of
the bytes the block reads. -/

namespace Sys2Proof

/-- A word in one of the two instruction formats of R90. -/
inductive CommandWord where
  /-- HCMD, 64 bits, from the host to CMD. -/
  | host (w : Word64)
  /-- SCMD, 8 bits, from the block to the sensor's CONTROL register. -/
  | sensor (b : Byte)
  deriving DecidableEq, Repr

/-- What R96 reads from a host command word. -/
inductive HostDecoded where
  | instr (i : Instr)
  /-- R97: a reserved OP or a nonzero reserved bit. -/
  | illegal (op : BitVec 4)
  deriving DecidableEq, Repr

/-- What R99 to R102 read from a sensor command byte. -/
inductive SensorDecoded where
  | instr (i : Instr)
  /-- R102: a byte the block never writes to CONTROL. -/
  | notACommand (b : Byte)
  deriving DecidableEq, Repr

/-- R96, total on all 2^64 words; `w[hi:lo]` is `w.extractLsb' lo (hi - lo + 1)`. -/
def decodeHcmd (w : Word64) : HostDecoded :=
  let op := w.extractLsb' 60 4
  if op = 0x1#4 then
    if w.extractLsb' 16 44 = 0 then .instr (.init (w.extractLsb' 8 8) (w.extractLsb' 0 8))
    else .illegal op
  else if op = 0x2#4 then
    if w.extractLsb' 0 60 = 0 then .instr .readc else .illegal op
  else if op = 0x3#4 then
    if w.extractLsb' 0 60 = 0 then .instr .gett else .illegal op
  else if op = 0x4#4 then
    if w.extractLsb' 0 60 = 0 then .instr .getp else .illegal op
  else if op = 0x5#4 then
    if w.extractLsb' 0 60 = 0 then .instr .geta else .illegal op
  else if op = 0x6#4 then
    if w.extractLsb' 48 12 = 0 then
      .instr (.comp (w.extractLsb' 32 16) (w.extractLsb' 8 24) (w.extractLsb' 0 8))
    else .illegal op
  else .illegal op

/-- R99 to R102: READ_TEMP is 0x2E; READ_PRESSURE has 0b110100 in bits 5:0 and the mode in bits 7:6. -/
def decodeScmd (b : Byte) : SensorDecoded :=
  if b = 0x2E#8 then .instr .readTemp
  else if b.extractLsb' 0 6 = 0x34#6 then .instr (.readPressure (b.extractLsb' 6 2))
  else .notACommand b

/-- The instruction a word of either format stands for; none where its decoder rejects it. -/
def decode : CommandWord → Option Instr
  | .host w =>
    match decodeHcmd w with
    | .instr i => some i
    | .illegal _ => none
  | .sensor b =>
    match decodeScmd b with
    | .instr i => some i
    | .notACommand _ => none

/-- R101: `0x34 + (mode << 6)`. -/
def readPressureByte (oss : BitVec 2) : Byte := 0x34#8 + (oss.setWidth 8 <<< 6)

/-- The encoder, from the encoding lines of R93, R94, R95, R100 and R101. -/
def encode : Instr → CommandWord
  | .init dev modeReq => .host ((0x1#64 <<< 60) ||| (dev.setWidth 64 <<< 8) ||| modeReq.setWidth 64)
  | .readc => .host (0x2#64 <<< 60)
  | .gett => .host (0x3#64 <<< 60)
  | .getp => .host (0x4#64 <<< 60)
  | .geta => .host (0x5#64 <<< 60)
  | .comp ut up modeReq =>
    .host ((0x6#64 <<< 60) ||| (ut.setWidth 64 <<< 32) ||| (up.setWidth 64 <<< 8) ||| modeReq.setWidth 64)
  | .readTemp => .sensor 0x2E#8
  | .readPressure oss => .sensor (readPressureByte oss)

/-- The instruction in a word numbered as spec/opcode_table.json numbers its rows. A row of at most 8 bits is a sensor
command byte, a wider one a host command word (R90); R106 knows no other width. -/
def decodeTableWord (nbits w : Nat) : Option Instr :=
  if nbits ≤ 8 then decode (.sensor (BitVec.ofNat 8 w)) else decode (.host (BitVec.ofNat 64 w))

/-- CALPAIR (R67, R103): `d[0] × 256 + d[1]`, the pattern a calibration register keeps. -/
def calPair (hi lo : Byte) : Half := BitVec.ofNat 16 (hi.toNat * 256 + lo.toNat)

/-- UTPAIR (R68, R104, R194): `d[0] × 256 + d[1]`. -/
def utPair (d0 d1 : Byte) : Half := BitVec.ofNat 16 (d0.toNat * 256 + d1.toNat)

/-- UPTRIPLE (R69, R105): `MSB × 2^16 + LSB × 2^8 + XLSB`. -/
def upTriple (msb lsb xlsb : Byte) : Triple :=
  BitVec.ofNat 24 (msb.toNat * 2 ^ 16 + lsb.toNat * 2 ^ 8 + xlsb.toNat)

/-- R105, R197: `UP = lsr(raw24, 8 - mode)`. -/
def rawPressure (raw24 : Triple) (mode : BitVec 2) : Triple := raw24 >>> (8 - mode.toNat)

end Sys2Proof
end

