-- ==== Sys2Proof/Machine/Arith.lean ====
section
/-! DEFINITION. The integer functions of spec/00_scope.md R9: values are mathematical integers, and a width is applied only
by one of these. -/

namespace Sys2Proof.Machine

/-- The w in [-2^31, 2^31 - 1] with w ≡ v (mod 2^32). -/
def s32 (v : Int) : Int := Int.bmod v 4294967296

/-- The w in [0, 2^32 - 1] with w ≡ v (mod 2^32). -/
def u32 (v : Int) : Int := v % 4294967296

/-- h if h < 2^15, else h - 2^16. -/
def sext16 (h : Half) : Int := if h.toNat < 2 ^ 15 then h.toNat else (h.toNat : Int) - 2 ^ 16

/-- The pattern read as an unsigned number. -/
def zext16 (h : Half) : Int := h.toNat

/-- floor(v / 2^n): Lean's `/` on Int rounds toward minus infinity for a positive divisor. -/
def asr (v : Int) (n : Nat) : Int := v / ((2 ^ n : Nat) : Int)

/-- floor(v / 2^n), for v in [0, 2^32 - 1]. -/
def lsr (v : Int) (n : Nat) : Int := v / ((2 ^ n : Nat) : Int)

/-- s32(v × 2^n). -/
def shl32 (v : Int) (n : Nat) : Int := s32 (v * ((2 ^ n : Nat) : Int))

/-- The quotient truncated toward zero, for b ≠ 0. -/
def tdiv (a b : Int) : Int := Int.tdiv a b

/-- floor(a / b), for a ≥ 0 and b > 0. -/
def udiv (a b : Int) : Int := a / b

end Sys2Proof.Machine
end

