-- ==== Sys2Proof/Config.lean ====
section
/-! DEFINITION. What an instance of the block fixes or leaves open (spec/00_scope.md R7): the words in which the block
talks to its two collaborators, and the values nothing in the spec fixes, each an opaque constant. -/

namespace Sys2Proof

/-- R7, R125, R126: what a calibration read that fails does. -/
inductive CalLoadPolicy where
  | failFast
  | referenceZeroFill
  deriving DecidableEq, Repr

/-- R199: the two kinds of wait the block asks the timer collaborator for. -/
inductive WaitKind where
  | temperature
  | pressure (mode : BitVec 2)
  deriving DecidableEq, Repr

/-- What the block sends to its collaborators: the two bus primitives (R64, R65) and the wait request (R199). -/
inductive Transaction where
  | busWrite (dev reg value : Byte)
  | busRead (dev reg : Byte) (length : Nat)
  | wait (kind : WaitKind)
  deriving DecidableEq, Repr

/-- R64, R65, R66: the bus collaborator's answer to one transaction. `ok d0 d1 d2` is success: a read of n bytes delivers
the first n of the three, a write delivers none. `error code` is a TransportError with its 64-bit payload. -/
inductive BusAnswer where
  | ok (d0 d1 d2 : Byte)
  | error (code : Word64)
  deriving DecidableEq, Repr, Inhabited

/-- FREE VALUE (R66, I6; log entry 3). The bus collaborator's answer where State scripts none and does not say that it
has fallen silent, given everything the block has sent so far, the transaction asked about first. -/
opaque Config.busAnswer : List Transaction → BusAnswer

/-- FREE VALUE (R7, D7, I1; log entry 4). POW64, the binary64 power function of the altitude step. -/
opaque Config.pow64 : Binary64 → Binary64 → Binary64

/-- FREE VALUE (log entry 5). The sign and the 51 payload bits of the NaN an operation on these two operands returns. -/
opaque Config.nanBits : Binary64 → Binary64 → BitVec 52

/-- FREE VALUE (R7, R199, I4; log entry 6). By how many microseconds the wait asked for exceeds its lower bound. -/
opaque Config.waitExtra : WaitKind → Nat

end Sys2Proof
end

