-- ==== Sys2Proof/Machine/State.lean ====
section
/-! DEFINITION. The state of the block and of the ports around it, as plain data; what a step can stop with; the state
right after reset (spec/10_state.md). -/

namespace Sys2Proof.Machine

/-- R28: the step the sequencer takes next. Its 8-bit encoding is `phaseCode`. -/
inductive Phase where
  | idle
  | calRd (i : Fin 11)
  | calCommit
  | tCmd
  | tWait
  | tRd
  | pCmd
  | pWait
  | pRd
  | compute
  deriving DecidableEq, Repr

/-- R92: the operation an accepted command names. -/
inductive HostOp where
  | init
  | readc
  | gett
  | getp
  | geta
  | comp
  deriving DecidableEq, Repr

/-- R29: the fields of the accepted command. -/
structure CurOp where
  op : HostOp
  dev : Byte
  modeReq : Byte
  ut : Half
  up : Triple
  deriving DecidableEq, Repr

/-- R41, R46, R108: one access of the host, always a whole 64-bit register. `waitIdle` is the poll loop WAIT. -/
inductive HostAccess where
  | write (index : HostIndex) (value : Word64)
  | read (index : HostIndex)
  | waitIdle
  deriving DecidableEq, Repr

/-- R6, R261: who takes the next step. The bus collaborator answers inside a block step; `reset` is the reset input. -/
inductive Agent where
  | host
  | block
  | timer
  | reset
  deriving DecidableEq, Repr

/-- The registers of R20, then the ports: what the model holds of the host, of the two collaborators and of time. -/
structure State where
  /-- CAL[0..10], R21. -/
  cal : CalFile
  /-- MODE, R24. -/
  mode : BitVec 2
  /-- DEV_ADDR, R25. -/
  devAddr : Byte
  /-- INIT_DONE, R26. -/
  initDone : Bool
  /-- BUSY, R27. -/
  busy : Bool
  /-- PHASE, R28. -/
  phase : Phase
  /-- CUR_OP, R29. -/
  curOp : CurOp
  /-- CAL_STAGE[0..10], R30. -/
  calStage : CalFile
  /-- UT_L, R31. -/
  utL : Half
  /-- UP_L, R31. -/
  upL : Triple
  /-- ERR, R32. -/
  err : BitVec 4
  /-- ERR_INFO, R33. -/
  errInfo : Byte
  /-- XFER_CODE, R34. -/
  xferCode : Word64
  /-- RSP_VALID, R35: bit 0 is T, bit 1 is P, bit 2 is A. -/
  rspValid : BitVec 3
  /-- RSP_T10, R36. -/
  rspT10 : Word32
  /-- RSP_TEMP, R37. -/
  rspTemp : Binary64
  /-- RSP_PRESS, R38. -/
  rspPress : Word32
  /-- RSP_ALT, R39. -/
  rspAlt : Binary64
  /-- CAL_LOAD_POLICY, R7, R43: a hard-wired strap, which no step writes (log entry 2). -/
  policy : CalLoadPolicy
  /-- The wait the timer collaborator has been asked for and has not yet signalled, R199 (log entry 7). -/
  timer : Option WaitKind
  /-- Everything the block has sent to its collaborators, newest first (log entry 8). -/
  issued : List Transaction
  /-- The accesses the host has still to make, the next one first (log entry 9). -/
  host : List HostAccess
  /-- What the host's reads have returned, newest first (log entry 9). -/
  hostSeen : List (HostIndex × Word64)
  /-- The bus collaborator's coming answers, the next one first, R66 (log entry 3). -/
  bus : List BusAnswer
  /-- Once the answers of `bus` are used up, the bus collaborator never answers again, R295, I12 (log entry 3). -/
  busSilent : Bool
  /-- Which agent takes each coming step, the next one first, R261 (log entry 10). -/
  schedule : List Agent
  /-- Which agent takes every step once the schedule is used up: none is the fair order, an agent is that agent alone for
  ever, R295, I12 (log entry 10). -/
  afterSchedule : Option Agent
  deriving DecidableEq, Repr

/-- Why a step stops. -/
inductive Fault where
  /-- Raised by a host read of T10, TEMP, PRESS or ALT whose RSP_VALID bit is 0: "A model treats such a read as a fault; it
  must not return a number" (R45, R290, I7). Safe: the model stops where the hardware returns an unspecified value. -/
  | invalidResponse (index : HostIndex)
  deriving DecidableEq, Repr

/-- What the model gives no meaning to. -/
inductive Refusal where
  /-- Raised by an arm of `exec` that has no meaning yet. Safe. No arm uses it. -/
  | notModelled (mnemonic : String)
  /-- Raised by a host read of a reserved index: "A model refuses it" (R45, I8). Safe. -/
  | reservedRead (index : HostIndex)
  /-- Raised by a host write to a reserved index: "a model refuses it" (R46, I9). Safe. -/
  | reservedWrite (index : HostIndex)
  deriving DecidableEq, Repr

/-- R51. CUR_OP, CAL_STAGE, UT_L, UP_L and the response registers have no reset value in the spec; theirs is log entry 1.
The ports are empty: nothing has been sent, asked or answered. -/
def State.reset : State where
  cal := Vector.replicate 11 0
  mode := 0
  devAddr := 0
  initDone := false
  busy := false
  phase := .idle
  curOp := { op := .init, dev := 0, modeReq := 0, ut := 0, up := 0 }
  calStage := Vector.replicate 11 0
  utL := 0
  upL := 0
  err := 0
  errInfo := 0
  xferCode := 0
  rspValid := 0
  rspT10 := 0
  rspTemp := 0
  rspPress := 0
  rspAlt := 0
  policy := .failFast
  timer := none
  issued := []
  host := []
  hostSeen := []
  bus := []
  busSilent := false
  schedule := []
  afterSchedule := none

end Sys2Proof.Machine
end

