-- ==== Sys2Proof/Machine/Operands.lean ====
section
/-! DEFINITION. Operand forms: the numeric values of the calibration constants (R21, R141), the mode of a computation (R198),
the sensor's addresses (R63, R122) and the indices of the host registers (R41). -/

namespace Sys2Proof.Machine

/-- R21, R44: registers 3, 4 and 5 (AC4, AC5, AC6) are unsigned, the other eight signed. -/
def calSigned (i : Fin 11) : Bool := !(i.val == 3 || i.val == 4 || i.val == 5)

/-- R21: `sext_16(CAL[i])` for a signed register and `zext_16(CAL[i])` for an unsigned one. -/
def calValue (cal : CalFile) (i : Fin 11) : Int :=
  if calSigned i then sext16 cal[i] else zext16 cal[i]

/-- R141: the constants as the pipeline reads them. MB is among them and no step reads it (R23). -/
structure Constants where
  ac1 : Int
  ac2 : Int
  ac3 : Int
  ac4 : Int
  ac5 : Int
  ac6 : Int
  b1 : Int
  b2 : Int
  mb : Int
  mc : Int
  md : Int
  deriving DecidableEq, Repr

/-- R21, R141: index order AC1..AC6, B1, B2, MB, MC, MD. -/
def constants (cal : CalFile) : Constants where
  ac1 := calValue cal 0
  ac2 := calValue cal 1
  ac3 := calValue cal 2
  ac4 := calValue cal 3
  ac5 := calValue cal 4
  ac6 := calValue cal 5
  b1 := calValue cal 6
  b2 := calValue cal 7
  mb := calValue cal 8
  mc := calValue cal 9
  md := calValue cal 10

/-- R120: `sext_16(hi × 256 + lo)`. -/
def decodeS16 (hi lo : Byte) : Int := sext16 (calPair hi lo)

/-- R121: `hi × 256 + lo`. -/
def decodeU16 (hi lo : Byte) : Int := zext16 (calPair hi lo)

/-- R198: COMP computes at its own operand, already known to be 0..3; every other operation at MODE. -/
def computeMode (s : State) : BitVec 2 :=
  match s.curOp.op with
  | .init => s.mode
  | .readc => s.mode
  | .gett => s.mode
  | .getp => s.mode
  | .geta => s.mode
  | .comp => s.curOp.modeReq.setWidth 2

/-- CONTROL (R63). -/
abbrev controlAddr : Byte := 0xF4

/-- TEMP_DATA = PRESSURE_DATA (R63). -/
abbrev resultAddr : Byte := 0xF6

/-- R122: constant i lives at `0xAA + 2 × i`. -/
def calAddr (i : Fin 11) : Byte := BitVec.ofNat 8 (0xAA + 2 * i.val)

/-- R41: the index of a host register. -/
def regIndex : RegName → HostIndex
  | .cmd => 0x00
  | .status => 0x01
  | .config => 0x02
  | .xfer => 0x03
  | .t10 => 0x04
  | .temp => 0x05
  | .press => 0x06
  | .alt => 0x07
  | .calv i => BitVec.ofNat 5 (0x10 + i.val)

/-- R41: the register at an index; none for the reserved indices 0x08..0x0F and 0x1B..0x1F. -/
def regAt (index : HostIndex) : Option RegName :=
  if index = 0x00 then some .cmd
  else if index = 0x01 then some .status
  else if index = 0x02 then some .config
  else if index = 0x03 then some .xfer
  else if index = 0x04 then some .t10
  else if index = 0x05 then some .temp
  else if index = 0x06 then some .press
  else if index = 0x07 then some .alt
  else if h : 0x10 ≤ index.toNat ∧ index.toNat - 0x10 < 11 then some (.calv ⟨index.toNat - 0x10, h.2⟩)
  else none

end Sys2Proof.Machine
end

