-- ==== Sys2Proof/Machine/Flags.lean ====
section
/-! DEFINITION. The status bits and fields: the encoding of PHASE (R28), the error codes (R250), the RSP_VALID mask of each
operation (R229), and the STATUS and CONFIG words as the host reads them (R42, R43). The block has no other flags (R48). -/

namespace Sys2Proof.Machine

/-- R28: the encoding of PHASE. -/
def phaseCode : Phase → Byte
  | .idle => 0x00
  | .calRd i => BitVec.ofNat 8 (i.val + 1)
  | .calCommit => 0x0C
  | .tCmd => 0x10
  | .tWait => 0x11
  | .tRd => 0x12
  | .pCmd => 0x13
  | .pWait => 0x14
  | .pRd => 0x15
  | .compute => 0x18

/-- R250: an error as `raise` takes it, with its ERR_INFO and, for a TransportError, the collaborator's code. -/
inductive OpError where
  | transport (info : Byte) (code : Word64)
  | arithmetic (info : Byte)
  | configuration (info : Byte)
  | illegalOperation (info : Byte)
  deriving DecidableEq, Repr

/-- R250: the ERR codes. -/
def OpError.code : OpError → BitVec 4
  | .transport _ _ => 1
  | .arithmetic _ => 2
  | .configuration _ => 3
  | .illegalOperation _ => 4

/-- R250 to R254: the ERR_INFO recorded. -/
def OpError.info : OpError → Byte
  | .transport info _ => info
  | .arithmetic info => info
  | .configuration info => info
  | .illegalOperation info => info

/-- R256: XFER_CODE after the raise; only a TransportError writes it. -/
def OpError.xferCode (e : OpError) (old : Word64) : Word64 :=
  match e with
  | .transport _ code => code
  | .arithmetic _ => old
  | .configuration _ => old
  | .illegalOperation _ => old

/-- R229: `mask(op)`. -/
def validMask : HostOp → BitVec 3
  | .init => 0b000
  | .readc => 0b111
  | .gett => 0b001
  | .getp => 0b010
  | .geta => 0b100
  | .comp => 0b111

/-- R43: CONFIG bit 16. -/
def policyBit : CalLoadPolicy → BitVec 1
  | .failFast => 0
  | .referenceZeroFill => 1

/-- R42: the STATUS word, from bit 63 down. -/
def statusWord (s : State) : Word64 :=
  0#32 ++ phaseCode s.phase ++ s.errInfo ++ 0#4 ++ s.err ++ 0#1 ++ s.rspValid ++ 0#2
    ++ BitVec.ofBool s.initDone ++ BitVec.ofBool s.busy

/-- R43: the CONFIG word, from bit 63 down. -/
def configWord (s : State) : Word64 :=
  0#47 ++ policyBit s.policy ++ s.devAddr ++ 0#6 ++ s.mode

end Sys2Proof.Machine
end

