-- ==== Sys2Proof/Machine/Ops.lean ====
section
/-! DEFINITION. The operations the steps share: the parts of an acceptance (R221), taking an error (R256) and its clearing
(R258), successful completion (R229), one bus transaction (R64, R65, R75) and the reset event (R280). -/

namespace Sys2Proof.Machine

/-- R221, R258: acceptance clears the last operation's status. It is the only return from an error the block has. -/
def clearStatus (s : State) : State :=
  { s with err := 0, errInfo := 0, xferCode := 0, rspValid := 0 }

/-- R221: `CUR_OP <- the fields of d`. -/
def latchOp (c : CurOp) (s : State) : State := { s with curOp := c }

/-- R221: `BUSY <- 1 and phase <- the operation's first phase`. -/
def startAt (p : Phase) (s : State) : State := { s with busy := true, phase := p }

/-- `phase <- p` (R11). -/
def goto (p : Phase) (s : State) : State := { s with phase := p }

/-- R256: `raise`, the one way an operation ends in an error. -/
def raise (e : OpError) (s : State) : State :=
  { s with
    err := e.code, errInfo := e.info, xferCode := e.xferCode s.xferCode
    rspValid := 0, busy := false, phase := .idle }

/-- R229: `complete_ok`. -/
def completeOk (s : State) : State :=
  { s with rspValid := validMask s.curOp.op, err := 0, busy := false, phase := .idle }

/-- R66, I12: the collaborator's answer to transaction t: the next one scripted; else none where it has fallen silent, and
the free value for the history where it has not. -/
def busAnswer (t : Transaction) (s : State) : Option BusAnswer :=
  match s.bus with
  | a :: _ => some a
  | [] => if s.busSilent then none else some (Config.busAnswer (t :: s.issued))

/-- R75: transaction t is issued and answered; the answer is used up. -/
def busIssue (t : Transaction) (s : State) : State :=
  { s with issued := t :: s.issued, bus := s.bus.tail }

/-- R64: `BusWrite(dev, r, b)`, then what follows on ok; a TransportError is raised with `info`. Without an answer the
block's step does not complete and the block stays in its phase (R295, I12). -/
def busWriteOr (info dev reg value : Byte) (next : State → State) (s : State) : State :=
  match busAnswer (.busWrite dev reg value) s with
  | none => s
  | some (.ok _ _ _) => next (busIssue (.busWrite dev reg value) s)
  | some (.error code) => raise (.transport info code) (busIssue (.busWrite dev reg value) s)

/-- R65: `BusRead(dev, r, n)`, then what follows on the bytes; a TransportError is raised with `info`. Without an answer the
block stays in its phase (R295, I12). -/
def busReadOr (info dev reg : Byte) (n : Nat) (next : Byte → Byte → Byte → State → State) (s : State) : State :=
  match busAnswer (.busRead dev reg n) s with
  | none => s
  | some (.ok d0 d1 d2) => next d0 d1 d2 (busIssue (.busRead dev reg n) s)
  | some (.error code) => raise (.transport info code) (busIssue (.busRead dev reg n) s)

/-- R199: the wait request is sent to the timer collaborator. -/
def requestWait (w : WaitKind) (s : State) : State :=
  { s with timer := some w, issued := .wait w :: s.issued }

/-- R51, R280, R281: the reset event, whatever the block was doing. The strap keeps its value; nothing outside the block is
touched, and a host write held by BUSY stays pending. A wait asked for is abandoned (log entry 7). -/
def resetBlock (s : State) : State :=
  { State.reset with
    policy := s.policy, issued := s.issued, host := s.host, hostSeen := s.hostSeen, bus := s.bus
    busSilent := s.busSilent, schedule := s.schedule, afterSchedule := s.afterSchedule }

/-- R220: a CMD write while BUSY = 1 is held: it takes no step and no state changes. -/
def whenIdle (accept : State → State) (s : State) : Host.Outcome State Fault Refusal :=
  .next (if s.busy then s else accept s)

end Sys2Proof.Machine
end

