-- ==== Sys2Proof/Machine/Calibration.lean ====
section
/-! DEFINITION. The phases of an INIT (spec/40_calibration.md). -/

namespace Sys2Proof.Machine

/-- R124: `if i < 10: phase <- CAL_RD(i+1) else: phase <- CAL_COMMIT`. -/
def afterCalRd (i : Fin 11) : Phase :=
  if h : i.val + 1 < 11 then .calRd ⟨i.val + 1, h⟩ else .calCommit

/-- R124: constant i is staged and the load goes on. -/
def stageCal (i : Fin 11) (h : Half) (s : State) : State :=
  goto (afterCalRd i) { s with calStage := s.calStage.set i h }

/-- R124, R125, R126: step CAL_RD(i). Without an answer the block stays in its phase (R295, I12). -/
def calRd (i : Fin 11) (s : State) : State :=
  match busAnswer (.busRead s.curOp.dev (calAddr i) 2) s with
  | none => s
  | some (.ok d0 d1 _) => stageCal i (calPair d0 d1) (busIssue (.busRead s.curOp.dev (calAddr i) 2) s)
  | some (.error code) =>
    match s.policy with
    | .failFast => raise (.transport (calAddr i) code) (busIssue (.busRead s.curOp.dev (calAddr i) 2) s)
    | .referenceZeroFill => stageCal i 0 (busIssue (.busRead s.curOp.dev (calAddr i) 2) s)

/-- R127: step CAL_COMMIT, the one step that writes CAL, MODE, DEV_ADDR and INIT_DONE. -/
def calCommit (s : State) : State :=
  completeOk
    { s with
      cal := s.calStage, mode := s.curOp.modeReq.extractLsb' 0 2, devAddr := s.curOp.dev, initDone := true }

end Sys2Proof.Machine
end

