-- ==== Sys2Proof/Machine/Binary64.lean ====
section
/-! DEFINITION. IEEE 754 binary64 on bit patterns, as spec/00_scope.md R10 asks for it: the value of an integer, and
division, subtraction and multiplication, each the exact result rounded once to nearest, ties to even. Which NaN an invalid
operation returns is a free value (log entry 5). -/

namespace Sys2Proof.Machine

/-- What a pattern stands for; `finite neg mant exp` is (-1)^neg × mant × 2^exp. -/
inductive Unpacked where
  | nan
  | inf (neg : Bool)
  | finite (neg : Bool) (mant : Nat) (exp : Int)
  deriving DecidableEq, Repr

/-- The fields of the pattern: sign in bit 63, biased exponent in bits 62:52, fraction in bits 51:0. -/
def unpack64 (x : Binary64) : Unpacked :=
  let neg := x.toNat / 2 ^ 63 == 1
  let e : Nat := x.toNat / 2 ^ 52 % 2 ^ 11
  let frac : Nat := x.toNat % 2 ^ 52
  if e = 2047 then (if frac = 0 then .inf neg else .nan)
  else if e = 0 then .finite neg frac (-1074)
  else .finite neg (2 ^ 52 + frac) ((e : Int) - 1075)

/-- The pattern with this sign whose other 63 bits are `magnitude`. -/
def signed64 (neg : Bool) (magnitude : Nat) : Binary64 :=
  BitVec.ofNat 64 ((if neg then 2 ^ 63 else 0) + magnitude)

/-- The 63 magnitude bits of infinity. -/
def infMagnitude : Nat := 2047 * 2 ^ 52

/-- A quiet NaN; its sign and payload are free. -/
def nan64 (a b : Binary64) : Binary64 :=
  let free := Config.nanBits a b
  free.extractLsb' 51 1 ++ 0xFFF#12 ++ free.extractLsb' 0 51

/-- The integer nearest to a / b, ties to even. -/
def roundHalfEven (a b : Nat) : Nat :=
  let q := a / b
  let r := a % b
  if 2 * r > b ∨ (2 * r = b ∧ q % 2 = 1) then q + 1 else q

/-- The exponent e with 2^e ≤ num / den < 2^(e+1), for positive num and den. -/
def floorLog2 (num den : Nat) : Int :=
  let l : Int := (Nat.log2 num : Int) - (Nat.log2 den : Int)
  if den * 2 ^ l.toNat ≤ num * 2 ^ (-l).toNat then l else l - 1

/-- The magnitude bits of num / den rounded to binary64: with ulp 2^u, the significand q rounded half to even stands for
q × 2^u, and its pattern is (u + 1074) × 2^52 + q, a carry out of q included; a result past the largest finite value is
infinity. -/
def roundRatio (num den : Nat) : Nat :=
  if num = 0 then 0
  else
    let u : Int := max (floorLog2 num den - 52) (-1074)
    let q := roundHalfEven (num * 2 ^ (-u).toNat) (den * 2 ^ u.toNat)
    min ((u + 1074).toNat * 2 ^ 52 + q) infMagnitude

/-- `f64(v)` of R10. -/
def f64OfInt (v : Int) : Binary64 := signed64 (decide (v < 0)) (roundRatio v.natAbs 1)

/-- The binary64 value nearest to the decimal literal num / den (R10). -/
def f64Literal (num den : Nat) : Binary64 := signed64 false (roundRatio num den)

/-- `a /f b` of R10. -/
def f64Div (a b : Binary64) : Binary64 :=
  match unpack64 a, unpack64 b with
  | .nan, _ => nan64 a b
  | _, .nan => nan64 a b
  | .inf _, .inf _ => nan64 a b
  | .inf s, .finite t _ _ => signed64 (s ^^ t) infMagnitude
  | .finite s _ _, .inf t => signed64 (s ^^ t) 0
  | .finite s m e, .finite t n f =>
    if n = 0 then (if m = 0 then nan64 a b else signed64 (s ^^ t) infMagnitude)
    else signed64 (s ^^ t) (roundRatio (m * 2 ^ (e - f).toNat) (n * 2 ^ (f - e).toNat))

/-- `a *f b` of R10. -/
def f64Mul (a b : Binary64) : Binary64 :=
  match unpack64 a, unpack64 b with
  | .nan, _ => nan64 a b
  | _, .nan => nan64 a b
  | .inf s, .inf t => signed64 (s ^^ t) infMagnitude
  | .inf s, .finite t n _ => if n = 0 then nan64 a b else signed64 (s ^^ t) infMagnitude
  | .finite s m _, .inf t => if m = 0 then nan64 a b else signed64 (s ^^ t) infMagnitude
  | .finite s m e, .finite t n f =>
    signed64 (s ^^ t) (roundRatio (m * n * 2 ^ (e + f).toNat) (2 ^ (-(e + f)).toNat))

/-- (-1)^neg × mant. -/
def signedMant (neg : Bool) (mant : Nat) : Int := if neg then -(mant : Int) else mant

/-- `a -f b` of R10. An exact zero difference is +0, but for (-0) - (+0), which is -0. -/
def f64Sub (a b : Binary64) : Binary64 :=
  match unpack64 a, unpack64 b with
  | .nan, _ => nan64 a b
  | _, .nan => nan64 a b
  | .inf s, .inf t => if s = t then nan64 a b else signed64 s infMagnitude
  | .inf s, .finite _ _ _ => signed64 s infMagnitude
  | .finite _ _ _, .inf t => signed64 (!t) infMagnitude
  | .finite s m e, .finite t n f =>
    let d := signedMant s m * ((2 ^ (e - f).toNat : Nat) : Int) - signedMant t n * ((2 ^ (f - e).toNat : Nat) : Int)
    let g := min e f
    if d = 0 then signed64 (m = 0 && n = 0 && s && !t) 0
    else signed64 (decide (d < 0)) (roundRatio (d.natAbs * 2 ^ g.toNat) (2 ^ (-g).toNat))

/-- The rational a finite pattern stands for; none for an infinity or a NaN. -/
def value64 (x : Binary64) : Option ℚ :=
  match unpack64 x with
  | .nan => none
  | .inf _ => none
  | .finite s m e => some ((signedMant s m : ℚ) * (2 : ℚ) ^ e)

end Sys2Proof.Machine
end

