-- ==== Sys2Proof/Machine/Pipeline.lean ====
section
/-! DEFINITION. The compensation pipeline of spec/41_compensation.md: one function for each step of R140's table, on exactly
the operands its row names; then the value of each step from the constants and the raw sample; then PIPE. -/

namespace Sys2Proof.Machine

/-- R142. -/
def stepX1T (ut ac6 ac5 : Int) : Int := asr (s32 ((ut - ac6) * ac5)) 15

/-- R143: the temperature divisor. -/
def stepDEN (x1t md : Int) : Int := s32 (x1t + md)

/-- R143. -/
def stepX2T (mc den : Int) : Int := tdiv (shl32 mc 11) den

/-- R144. -/
def stepB5 (x1t x2t : Int) : Int := s32 (x1t + x2t)

/-- R145. -/
def stepT10 (b5 : Int) : Int := asr (s32 (b5 + 8)) 4

/-- R146. -/
def stepTempC (t10 : Int) : Binary64 := f64Div (f64OfInt t10) (f64Literal 10 1)

/-- R147. -/
def stepB6 (b5 : Int) : Int := s32 (b5 - 4000)

/-- R148. -/
def stepSQ (b6 : Int) : Int := asr (s32 (b6 * b6)) 12

/-- R149. -/
def stepX1A (b2 sq : Int) : Int := asr (s32 (b2 * sq)) 11

/-- R150. -/
def stepX2A (ac2 b6 : Int) : Int := asr (s32 (ac2 * b6)) 11

/-- R151. -/
def stepX3A (x1a x2a : Int) : Int := s32 (x1a + x2a)

/-- R152. -/
def stepB3NUM (ac1 x3a : Int) (mode : Nat) : Int := s32 (shl32 (s32 (ac1 * 4 + x3a)) mode + 2)

/-- R152. -/
def stepB3 (b3num : Int) : Int := tdiv b3num 4

/-- R153. -/
def stepX1B (ac3 b6 : Int) : Int := asr (s32 (ac3 * b6)) 13

/-- R154. -/
def stepX2B (b1 sq : Int) : Int := asr (s32 (b1 * sq)) 16

/-- R155. -/
def stepX3B (x1b x2b : Int) : Int := asr (s32 (x1b + x2b + 2)) 2

/-- R156. -/
def stepB4 (ac4 x3b : Int) : Int := lsr (u32 (ac4 * u32 (x3b + 32768))) 15

/-- R158. -/
def stepB7 (up b3 : Int) (mode : Nat) : Int := u32 ((up - b3) * lsr 50000 mode)

/-- R159: the branch, unsigned. -/
def stepPu (b7 b4 : Int) : Int := if b7 < 0x80000000 then udiv (2 * b7) b4 else u32 (2 * udiv b7 b4)

/-- R159: later steps read P as signed. -/
def stepP (b7 b4 : Int) : Int := s32 (stepPu b7 b4)

/-- R160. -/
def stepX1C0 (p : Int) : Int := s32 (asr p 8 * asr p 8)

/-- R161. -/
def stepX1C (x1c0 : Int) : Int := asr (s32 (x1c0 * 3038)) 16

/-- R162. -/
def stepX2C (p : Int) : Int := asr (s32 (-7357 * p)) 16

/-- R163. -/
def stepPRESS (p x1c x2c : Int) : Int := u32 (p + asr (s32 (x1c + x2c + 3791)) 4)

/-- R164. -/
def stepALT (press : Int) : Binary64 :=
  f64Mul (f64Literal 44330 1)
    (f64Sub (f64Literal 1 1)
      (Config.pow64 (f64Div (f64OfInt press) (f64Literal 101325 1)) (f64Literal 1903 10000)))

/-! The value of each step, for the constants k and the raw sample. -/

def valX1T (k : Constants) (ut : Int) : Int := stepX1T ut k.ac6 k.ac5
def valDEN (k : Constants) (ut : Int) : Int := stepDEN (valX1T k ut) k.md
def valX2T (k : Constants) (ut : Int) : Int := stepX2T k.mc (valDEN k ut)
def valB5 (k : Constants) (ut : Int) : Int := stepB5 (valX1T k ut) (valX2T k ut)
def valT10 (k : Constants) (ut : Int) : Int := stepT10 (valB5 k ut)
def valB6 (k : Constants) (ut : Int) : Int := stepB6 (valB5 k ut)
def valSQ (k : Constants) (ut : Int) : Int := stepSQ (valB6 k ut)
def valX1A (k : Constants) (ut : Int) : Int := stepX1A k.b2 (valSQ k ut)
def valX2A (k : Constants) (ut : Int) : Int := stepX2A k.ac2 (valB6 k ut)
def valX3A (k : Constants) (ut : Int) : Int := stepX3A (valX1A k ut) (valX2A k ut)
def valB3NUM (k : Constants) (ut : Int) (mode : Nat) : Int := stepB3NUM k.ac1 (valX3A k ut) mode
def valB3 (k : Constants) (ut : Int) (mode : Nat) : Int := stepB3 (valB3NUM k ut mode)
def valX1B (k : Constants) (ut : Int) : Int := stepX1B k.ac3 (valB6 k ut)
def valX2B (k : Constants) (ut : Int) : Int := stepX2B k.b1 (valSQ k ut)
def valX3B (k : Constants) (ut : Int) : Int := stepX3B (valX1B k ut) (valX2B k ut)
def valB4 (k : Constants) (ut : Int) : Int := stepB4 k.ac4 (valX3B k ut)
def valB7 (k : Constants) (ut up : Int) (mode : Nat) : Int := stepB7 up (valB3 k ut mode) mode
def valP (k : Constants) (ut up : Int) (mode : Nat) : Int := stepP (valB7 k ut up mode) (valB4 k ut)
def valX1C0 (k : Constants) (ut up : Int) (mode : Nat) : Int := stepX1C0 (valP k ut up mode)
def valX1C (k : Constants) (ut up : Int) (mode : Nat) : Int := stepX1C (valX1C0 k ut up mode)
def valX2C (k : Constants) (ut up : Int) (mode : Nat) : Int := stepX2C (valP k ut up mode)
def valPRESS (k : Constants) (ut up : Int) (mode : Nat) : Int :=
  stepPRESS (valP k ut up mode) (valX1C k ut up mode) (valX2C k ut up mode)

/-- R165: the record a successful run returns, as the response registers hold it. -/
structure Reading where
  t10 : Word32
  tempC : Binary64
  press : Word32
  alt : Binary64
  deriving DecidableEq, Repr

/-- R140: what PIPE returns. -/
inductive PipeResult where
  | ok (r : Reading)
  | arithmeticError (info : Byte)
  deriving DecidableEq, Repr

/-- R140, R166: the first zero divisor ends the pipeline, the temperature divisor (R143) before the pressure divisor
(R157). -/
def pipe (cal : CalFile) (utL : Half) (upL : Triple) (mode : BitVec 2) : PipeResult :=
  let k := constants cal
  let ut : Int := utL.toNat
  let up : Int := upL.toNat
  if valDEN k ut = 0 then .arithmeticError 0x01
  else if valB4 k ut = 0 then .arithmeticError 0x02
  else
    .ok
      { t10 := BitVec.ofInt 32 (valT10 k ut)
        tempC := stepTempC (valT10 k ut)
        press := BitVec.ofInt 32 (valPRESS k ut up mode.toNat)
        alt := stepALT (valPRESS k ut up mode.toNat) }

end Sys2Proof.Machine
end

