-- ==== Sys2Proof/Machine/Acquisition.lean ====
section
/-! DEFINITION. The phases of a reading (spec/42_acquisition.md), and the two sensor command bytes, whose meaning is the
phase that writes them to CONTROL. -/

namespace Sys2Proof.Machine

/-- R191: T_CMD. -/
def tCmd (s : State) : State := busWriteOr 0x10 s.devAddr controlAddr 0x2E (goto .tWait) s

/-- R195: P_CMD, for the command byte with this OSS field. -/
def pCmd (oss : BitVec 2) (s : State) : State :=
  busWriteOr 0x13 s.devAddr controlAddr (readPressureByte oss) (goto .pWait) s

/-- The byte the sequencer is about to write to CONTROL: READ_TEMP in T_CMD, READ_PRESSURE at MODE in P_CMD, and none in any
other phase (R76, R99, R191, R195). -/
def commandByte (s : State) : Option Byte :=
  match s.phase with
  | .tCmd => some 0x2E
  | .pCmd => some (readPressureByte s.mode)
  | .idle => none
  | .calRd _ => none
  | .calCommit => none
  | .tWait => none
  | .tRd => none
  | .pWait => none
  | .pRd => none
  | .compute => none

/-- READ_TEMP (R100): written in T_CMD and nowhere else (R76); outside it the block takes no such step (log entry 11). -/
def execReadTemp (s : State) : Host.Outcome State Fault Refusal :=
  .next (if s.phase = .tCmd then tCmd s else s)

/-- READ_PRESSURE (R101): written in P_CMD, with OSS = MODE, and nowhere else (R76, R195; log entry 11). -/
def execReadPressure (oss : BitVec 2) (s : State) : Host.Outcome State Fault Refusal :=
  .next (if s.phase = .pCmd ∧ oss = s.mode then pCmd oss s else s)

/-- R199, R294: the lower bound of each wait, in microseconds. -/
def waitLowerBound : WaitKind → Nat
  | .temperature => 5000
  | .pressure mode => if mode = 0 then 5000 else if mode = 1 then 8000 else if mode = 2 then 14000 else 26000

/-- WAIT_T and WAIT_P[m] (R7): the delay, in microseconds, that the request `wait w` asks the timer collaborator for. -/
def waitDuration (w : WaitKind) : Nat := waitLowerBound w + Config.waitExtra w

/-- R192, R196, R199: a WAIT phase asks for its wait once; until the signal the block takes no step. -/
def waitFor (w : WaitKind) (s : State) : State :=
  match s.timer with
  | none => requestWait w s
  | some _ => s

/-- R192: T_WAIT, up to the timer's signal. -/
def tWait (s : State) : State := waitFor .temperature s

/-- R196: P_WAIT, up to the timer's signal. -/
def pWait (s : State) : State := waitFor (.pressure s.mode) s

/-- R192, R196: where the sequencer goes when the wait it is in has elapsed. -/
def afterWait : Phase → Phase
  | .tWait => .tRd
  | .pWait => .pRd
  | .idle => .idle
  | .calRd i => .calRd i
  | .calCommit => .calCommit
  | .tCmd => .tCmd
  | .tRd => .tRd
  | .pCmd => .pCmd
  | .pRd => .pRd
  | .compute => .compute

/-- R199: the timer's signal completes the WAIT phase; without a request there is nothing to signal. -/
def timerSignal (s : State) : State :=
  match s.timer with
  | none => s
  | some _ => { s with timer := none, phase := afterWait s.phase }

/-- R193, R194: T_RD. -/
def tRd (s : State) : State :=
  busReadOr 0x12 s.devAddr resultAddr 2 (fun d0 d1 _ s => goto .pCmd { s with utL := utPair d0 d1 }) s

/-- R197: P_RD. -/
def pRd (s : State) : State :=
  busReadOr 0x15 s.devAddr resultAddr 3
    (fun d0 d1 d2 s => goto .compute { s with upL := rawPressure (upTriple d0 d1 d2) s.mode }) s

/-- R198: the four response registers, in one step. -/
def writeResponse (r : Reading) (s : State) : State :=
  { s with rspT10 := r.t10, rspTemp := r.tempC, rspPress := r.press, rspAlt := r.alt }

/-- R198: COMPUTE. -/
def compute (s : State) : State :=
  match pipe s.cal s.utL s.upL (computeMode s) with
  | .arithmeticError info => raise (.arithmetic info) s
  | .ok r => completeOk (writeResponse r s)

end Sys2Proof.Machine
end

