-- ==== Sys2Proof/Machine/HostOps.lean ====
section
/-! DEFINITION. The host operations (spec/43_host_ops.md): the acceptance step of each, for a decoded command. The steps that
follow are the phases of Calibration.lean and Acquisition.lean. -/

namespace Sys2Proof.Machine

/-- R223: INIT. -/
def acceptInit (dev modeReq : Byte) (s : State) : State :=
  let s := latchOp { s.curOp with op := .init, dev := dev, modeReq := modeReq } (clearStatus s)
  if 3 < modeReq.toNat then raise (.configuration modeReq) s else startAt (.calRd 0) s

/-- R224 to R227: READC and the accessors, which differ in CUR_OP.op alone. -/
def acceptReading (op : HostOp) (s : State) : State :=
  let s := latchOp { s.curOp with op := op } (clearStatus s)
  if s.initDone then startAt .tCmd s else raise (.arithmetic 0xFF) s

/-- R228: COMP. -/
def acceptComp (ut : Half) (up : Triple) (modeReq : Byte) (s : State) : State :=
  let s := latchOp { s.curOp with op := .comp, modeReq := modeReq, ut := ut, up := up } (clearStatus s)
  if 3 < modeReq.toNat then raise (.configuration modeReq) s
  else startAt .compute { s with utL := ut, upL := up }

/-- R97, R221, R254: a word that decodes to ILLEGAL(op) is accepted, then fails. -/
def acceptIllegal (op : BitVec 4) (s : State) : State :=
  raise (.illegalOperation (op.setWidth 8)) (clearStatus s)

/-- INIT dev, mode_req (R223). -/
def execInit (dev modeReq : Byte) (s : State) : Host.Outcome State Fault Refusal :=
  whenIdle (acceptInit dev modeReq) s

/-- READC (R224). -/
def execReadc (s : State) : Host.Outcome State Fault Refusal := whenIdle (acceptReading .readc) s

/-- GETT (R225). -/
def execGett (s : State) : Host.Outcome State Fault Refusal := whenIdle (acceptReading .gett) s

/-- GETP (R226). -/
def execGetp (s : State) : Host.Outcome State Fault Refusal := whenIdle (acceptReading .getp) s

/-- GETA (R227). -/
def execGeta (s : State) : Host.Outcome State Fault Refusal := whenIdle (acceptReading .geta) s

/-- COMP ut, up, mode_req (R228). -/
def execComp (ut : Half) (up : Triple) (modeReq : Byte) (s : State) : Host.Outcome State Fault Refusal :=
  whenIdle (acceptComp ut up modeReq) s

end Sys2Proof.Machine
end

