-- ==== Sys2Proof/Machine/Dispatch.lean ====
section
/-! DEFINITION. One arm per instruction. -/

namespace Sys2Proof.Machine

def exec (i : Instr) (s : State) : Host.Outcome State Fault Refusal :=
  match i with
  -- host operations
  | .init dev modeReq => Sys2Proof.Machine.execInit dev modeReq s
  | .readc => Sys2Proof.Machine.execReadc s
  | .gett => Sys2Proof.Machine.execGett s
  | .getp => Sys2Proof.Machine.execGetp s
  | .geta => Sys2Proof.Machine.execGeta s
  | .comp ut up modeReq => Sys2Proof.Machine.execComp ut up modeReq s
  -- sensor command bytes
  | .readTemp => Sys2Proof.Machine.execReadTemp s
  | .readPressure oss => Sys2Proof.Machine.execReadPressure oss s

end Sys2Proof.Machine
end

