-- ==== Sys2Proof/Machine/HostPort.lean ====
section
/-! DEFINITION. The host register file as the host sees it (spec/10_state.md R41 to R46). -/

namespace Sys2Proof.Machine

/-- R45: what a host read returns. -/
inductive ReadResult where
  | value (v : Word64)
  /-- The response register's RSP_VALID bit is 0. -/
  | noValue
  /-- The index is reserved. -/
  | reserved
  deriving DecidableEq, Repr

/-- R45: a response register reads as its value only when its RSP_VALID bit is set. -/
def readIfValid (valid : Bool) (v : Word64) : ReadResult := if valid then .value v else .noValue

/-- R41 to R45: a host read. It has no side effect. -/
def readReg (index : HostIndex) (s : State) : ReadResult :=
  match regAt index with
  | none => .reserved
  | some .cmd => .value 0
  | some .status => .value (statusWord s)
  | some .config => .value (configWord s)
  | some .xfer => .value s.xferCode
  | some .t10 => readIfValid (s.rspValid.getLsbD 0) (s.rspT10.signExtend 64)
  | some .temp => readIfValid (s.rspValid.getLsbD 0) s.rspTemp
  | some .press => readIfValid (s.rspValid.getLsbD 1) (s.rspPress.setWidth 64)
  | some .alt => readIfValid (s.rspValid.getLsbD 2) s.rspAlt
  | some (.calv i) => .value (if calSigned i then s.cal[i].signExtend 64 else s.cal[i].setWidth 64)

/-- The host's next access is over. -/
def popHost (s : State) : State := { s with host := s.host.tail }

/-- The host has seen this value at this index. -/
def seen (index : HostIndex) (v : Word64) (s : State) : State :=
  { s with hostSeen := (index, v) :: s.hostSeen }

/-- R45: one host read as a step. -/
def hostReadStep (index : HostIndex) (s : State) : Host.Outcome State Fault Refusal :=
  match readReg index s with
  | .value v => .next (seen index v (popHost s))
  | .noValue => .fault (.invalidResponse index)
  | .reserved => .refused (.reservedRead index)

/-- R46: one host write to an index other than CMD's as a step. -/
def hostOtherWriteStep (index : HostIndex) (s : State) : Host.Outcome State Fault Refusal :=
  match regAt index with
  | none => .refused (.reservedWrite index)
  | some _ => .next (popHost s)

/-- R108: one turn of WAIT: read STATUS; "if bit 0 (BUSY) is 1, repeat". -/
def hostPollStep (s : State) : Host.Outcome State Fault Refusal :=
  .next (seen (regIndex .status) (statusWord s) (if s.busy then s else popHost s))

end Sys2Proof.Machine
end

