-- ==== Sys2Proof/Machine/Sequencer.lean ====
section
/-! DEFINITION. The agents of spec/00_scope.md R6, one atomic step each (spec/60_exceptions.md R261), and what it takes for an
instruction to be the next one run. -/

namespace Sys2Proof.Machine

/-- R190, R124, R127: the block's step in the phase it is in. In T_CMD and P_CMD it runs the command byte it emits; in IDLE
it takes no step until a host writes CMD (R282). -/
def blockStep (s : State) : Host.Outcome State Fault Refusal :=
  match commandByte s with
  | some b =>
    match decodeScmd b with
    | .instr i => exec i s
    | .notACommand _ => .next s
  | none =>
    match s.phase with
    | .calRd i => .next (calRd i s)
    | .calCommit => .next (calCommit s)
    | .tWait => .next (tWait s)
    | .tRd => .next (tRd s)
    | .pWait => .next (pWait s)
    | .pRd => .next (pRd s)
    | .compute => .next (compute s)
    | .idle => .next s
    | .tCmd => .next s
    | .pCmd => .next s

/-- R220, R221: the word w, at the head of the host's accesses, is written to CMD: held while BUSY = 1, else accepted. -/
def hostCommandStep (w : Word64) (s : State) : Host.Outcome State Fault Refusal :=
  if s.busy then .next s
  else
    match decodeHcmd w with
    | .instr i => exec i (popHost s)
    | .illegal op => .next (acceptIllegal op (popHost s))

/-- R46, R82, R220: the host's next access. -/
def hostStep (s : State) : Host.Outcome State Fault Refusal :=
  match s.host with
  | [] => .next s
  | .write index w :: _ => if index = regIndex .cmd then hostCommandStep w s else hostOtherWriteStep index s
  | .read index :: _ => hostReadStep index s
  | .waitIdle :: _ => hostPollStep s

/-- R261: one step of one agent. -/
def runAgent (a : Agent) (s : State) : Host.Outcome State Fault Refusal :=
  match a with
  | .host => hostStep s
  | .block => blockStep s
  | .timer => .next (timerSignal s)
  | .reset => .next (resetBlock s)

/-- The fair order of log entry 10: a wait is signalled, an operation in progress goes on, and only then the host moves. -/
def fairAgent (s : State) : Agent :=
  if s.busy then (if s.timer.isSome then .timer else .block) else .host

/-- R261: who moves next: the agent the schedule names; once it is used up, `afterSchedule`, or the fair order. -/
def nextAgent (s : State) : Agent :=
  match s.schedule with
  | a :: _ => a
  | [] => s.afterSchedule.getD (fairAgent s)

/-- The schedule's entry is used up. -/
def popSchedule (s : State) : State := { s with schedule := s.schedule.tail }

/-- The instruction word the next step runs, if it runs one: the host's command word when the block accepts it, or the byte
the sequencer writes to CONTROL. -/
def fetch (s : State) : Option CommandWord :=
  match nextAgent s with
  | .host =>
    match s.host with
    | .write index w :: _ => if index = regIndex .cmd ∧ s.busy = false then some (.host w) else none
    | .read _ :: _ => none
    | .waitIdle :: _ => none
    | [] => none
  | .block => (commandByte s).map .sensor
  | .timer => none
  | .reset => none

/-- The state a fetched instruction runs in: the schedule's entry is used up, and a host command has left the host. -/
def fetched (w : CommandWord) (s : State) : State :=
  match w with
  | .host _ => popHost (popSchedule s)
  | .sensor _ => popSchedule s

/-- The host is about to write w to CMD of an idle block, and moves next. -/
def placeHostCommand (w : Word64) (s : State) : State :=
  { s with
    busy := false, phase := .idle, timer := none
    host := .write (regIndex .cmd) w :: s.host, schedule := .host :: s.schedule }

/-- The sequencer is about to write this command to CONTROL, and moves next. -/
def placeSensorCommand (i : Instr) (s : State) : State :=
  match i with
  | .readTemp => { s with busy := true, phase := .tCmd, timer := none, schedule := .block :: s.schedule }
  | .readPressure oss =>
    { s with busy := true, phase := .pCmd, mode := oss, timer := none, schedule := .block :: s.schedule }
  | .init _ _ => s
  | .readc => s
  | .gett => s
  | .getp => s
  | .geta => s
  | .comp _ _ _ => s

/-- The word, numbered as spec/opcode_table.json numbers it, is what the next step fetches. A byte that is no sensor command
cannot be placed: the block emits no other (R102). -/
def placeTableWord (nbits w : Nat) (s : State) : State :=
  if nbits ≤ 8 then
    match decodeScmd (BitVec.ofNat 8 w) with
    | .instr i => placeSensorCommand i s
    | .notACommand _ => s
  else placeHostCommand (BitVec.ofNat 64 w) s

end Sys2Proof.Machine
end

