-- ==== Sys2Proof/Machine/Step.lean ====
section
/-! DEFINITION. One step of the machine: the next agent moves. -/

namespace Sys2Proof.Machine

/-- R261: one atomic step of the agent whose turn it is. -/
def step (s : State) : Host.Outcome State Fault Refusal := runAgent (nextAgent s) (popSchedule s)

/-- The state in which the next step runs the instruction with this word (log entry 12). -/
def State.withFetchWord (s : State) (nbits w : Nat) : State := placeTableWord nbits w s

end Sys2Proof.Machine
end

