-- ==== Sys2Proof/Machine/Assembler.lean ====
section
/-! DEFINITION. The assembler of spec/30_encoding.md R107 and R108: the accesses a statement of a host program stands for. -/

namespace Sys2Proof.Machine

/-- The CMD write of a host operation (R107). -/
def cmdWrite (i : Instr) : List HostAccess :=
  match encode i with
  | .host w => [.write (regIndex .cmd) w]
  | .sensor _ => []

/-- R107, R108: what a well-formed statement writes and reads. RUN is the statement followed by WAIT. -/
def accesses : Statement → List HostAccess
  | .init dev mode => cmdWrite (.init (BitVec.ofNat 8 dev) (BitVec.ofNat 8 mode))
  | .readc => cmdWrite .readc
  | .gett => cmdWrite .gett
  | .getp => cmdWrite .getp
  | .geta => cmdWrite .geta
  | .comp ut up mode => cmdWrite (.comp (BitVec.ofNat 16 ut) (BitVec.ofNat 24 up) (BitVec.ofNat 8 mode))
  | .cmd w => [.write (regIndex .cmd) (BitVec.ofNat 64 w)]
  | .rd name => [.read (regIndex name)]
  | .wait => [.waitIdle]
  | .run op => accesses op ++ [.waitIdle]

/-- R107: an ill-formed statement is an assembly error. -/
def assemble (st : Statement) : Option (List HostAccess) :=
  if st.wellFormed then some (accesses st) else none

end Sys2Proof.Machine
end

