-- ==== Sys2Proof/Machine/Wide.lean ====
section
/-! DEFINITION. The source's formulas over unbounded signed integers with the single formula `p = (b7*2)/b4`, and the no-wrap
domain NW on which they and PIPE agree (spec/41_compensation.md R169). Nothing in the machine uses either. -/

namespace Sys2Proof.Machine

def wideX1T (k : Constants) (ut : Int) : Int := asr ((ut - k.ac6) * k.ac5) 15
def wideDEN (k : Constants) (ut : Int) : Int := wideX1T k ut + k.md
def wideX2T (k : Constants) (ut : Int) : Int := tdiv (k.mc * 2 ^ 11) (wideDEN k ut)
def wideB5 (k : Constants) (ut : Int) : Int := wideX1T k ut + wideX2T k ut
def wideT10 (k : Constants) (ut : Int) : Int := asr (wideB5 k ut + 8) 4
def wideB6 (k : Constants) (ut : Int) : Int := wideB5 k ut - 4000
def wideSQ (k : Constants) (ut : Int) : Int := asr (wideB6 k ut * wideB6 k ut) 12
def wideX3A (k : Constants) (ut : Int) : Int := asr (k.b2 * wideSQ k ut) 11 + asr (k.ac2 * wideB6 k ut) 11
def wideB3 (k : Constants) (ut : Int) (mode : Nat) : Int :=
  tdiv ((k.ac1 * 4 + wideX3A k ut) * ((2 ^ mode : Nat) : Int) + 2) 4
def wideX3B (k : Constants) (ut : Int) : Int :=
  asr (asr (k.ac3 * wideB6 k ut) 13 + asr (k.b1 * wideSQ k ut) 16 + 2) 2
def wideB4 (k : Constants) (ut : Int) : Int := asr (k.ac4 * (wideX3B k ut + 32768)) 15
def wideB7 (k : Constants) (ut up : Int) (mode : Nat) : Int := (up - wideB3 k ut mode) * asr 50000 mode
def wideP (k : Constants) (ut up : Int) (mode : Nat) : Int := tdiv (wideB7 k ut up mode * 2) (wideB4 k ut)
def widePRESS (k : Constants) (ut up : Int) (mode : Nat) : Int :=
  wideP k ut up mode
    + asr (asr (asr (wideP k ut up mode) 8 * asr (wideP k ut up mode) 8 * 3038) 16
        + asr (-7357 * wideP k ut up mode) 16 + 3791) 4

/-- The wide evaluation, with the two guarded divisions of R166. -/
inductive WideResult where
  | ok (t10 press : Int)
  | zeroDivisor (info : Byte)
  deriving DecidableEq, Repr

def widePipe (k : Constants) (ut up : Int) (mode : Nat) : WideResult :=
  if wideDEN k ut = 0 then .zeroDivisor 0x01
  else if wideB4 k ut = 0 then .zeroDivisor 0x02
  else .ok (wideT10 k ut) (widePRESS k ut up mode)

/-- v is in the range of `s32`. -/
def fitsS32 (v : Int) : Bool := decide (-2147483648 ≤ v) && decide (v ≤ 2147483647)

/-- v is in the range of `u32`. -/
def fitsU32 (v : Int) : Bool := decide (0 ≤ v) && decide (v ≤ 4294967295)

/-- R169 for the steps up to the temperature divisor. -/
def noWrapTempDivisor (k : Constants) (ut : Int) : Bool :=
  fitsS32 ((ut - k.ac6) * k.ac5) && fitsS32 (valX1T k ut + k.md)

/-- R169 for the steps from the temperature divisor to the pressure divisor. -/
def noWrapPressureDivisor (k : Constants) (ut : Int) : Bool :=
  fitsS32 (k.mc * 2 ^ 11) && fitsS32 (valX1T k ut + valX2T k ut) && fitsS32 (valB5 k ut + 8)
    && fitsS32 (valB5 k ut - 4000) && fitsS32 (valB6 k ut * valB6 k ut) && fitsS32 (k.b2 * valSQ k ut)
    && fitsS32 (k.ac2 * valB6 k ut) && fitsS32 (valX1A k ut + valX2A k ut) && fitsS32 (k.ac3 * valB6 k ut)
    && fitsS32 (k.b1 * valSQ k ut) && fitsS32 (valX1B k ut + valX2B k ut + 2) && fitsU32 (valX3B k ut + 32768)
    && fitsU32 (k.ac4 * (valX3B k ut + 32768))

/-- R169 for B3 (R152), which a run computes before it checks the pressure divisor, and R169's second condition, which is
about B3. -/
def noWrapB3 (k : Constants) (ut up : Int) (mode : Nat) : Bool :=
  fitsS32 (k.ac1 * 4 + valX3A k ut) && fitsS32 ((k.ac1 * 4 + valX3A k ut) * ((2 ^ mode : Nat) : Int))
    && fitsS32 ((k.ac1 * 4 + valX3A k ut) * ((2 ^ mode : Nat) : Int) + 2)
    && decide (0 ≤ (up - valB3 k ut mode) * lsr 50000 mode)
    && decide ((up - valB3 k ut mode) * lsr 50000 mode ≤ 2147483647)

/-- R169 for the steps after the pressure divisor. -/
def noWrapPressure (k : Constants) (ut up : Int) (mode : Nat) : Bool :=
  fitsS32 (stepPu (valB7 k ut up mode) (valB4 k ut))
    && fitsS32 (asr (valP k ut up mode) 8 * asr (valP k ut up mode) 8) && fitsS32 (valX1C0 k ut up mode * 3038)
    && fitsS32 (-7357 * valP k ut up mode) && fitsS32 (valX1C k ut up mode + valX2C k ut up mode + 3791)
    && fitsU32 (valP k ut up mode + asr (valX1C k ut up mode + valX2C k ut up mode + 3791) 4)

/-- R169: the no-wrap domain NW. A run that ends at the temperature divisor is asked for its steps up to that divisor, a run
that ends at the pressure divisor for all its steps and for the second condition (log entry 16). -/
def noWrap (k : Constants) (ut up : Int) (mode : Nat) : Bool :=
  noWrapTempDivisor k ut
    && (decide (valDEN k ut = 0)
      || noWrapPressureDivisor k ut && noWrapB3 k ut up mode
        && (decide (valB4 k ut = 0) || noWrapPressure k ut up mode))

end Sys2Proof.Machine
end

