-- ==== Sys2Proof/Safety.lean ====
section
/-! DEFINITION. What a run keeps: the relations among the registers that hold in every state a run from reset reaches, and the
order of the transactions of a reading. A statement that could fail only in other states takes `RegInv` as a premise. -/

namespace Sys2Proof.Machine

/-- The step stopped with neither a fault nor a refusal. -/
def completes : Host.Outcome State Fault Refusal → Bool
  | .next _ => true
  | .fault _ => false
  | .refused _ => false

/-- R190, R223: the phases of an INIT. -/
def inInit : Phase → Bool
  | .calRd _ => true
  | .calCommit => true
  | .idle => false
  | .tCmd => false
  | .tWait => false
  | .tRd => false
  | .pCmd => false
  | .pWait => false
  | .pRd => false
  | .compute => false

/-- R190: the phases of a reading before COMPUTE. -/
def inAcquisition : Phase → Bool
  | .tCmd => true
  | .tWait => true
  | .tRd => true
  | .pCmd => true
  | .pWait => true
  | .pRd => true
  | .idle => false
  | .calRd _ => false
  | .calCommit => false
  | .compute => false

/-- R224 to R227. -/
def isReading : HostOp → Bool
  | .readc => true
  | .gett => true
  | .getp => true
  | .geta => true
  | .init => false
  | .comp => false

/-- The invariant of the registers. -/
structure RegInv (s : State) : Prop where
  /-- R28: "PHASE is IDLE exactly when BUSY = 0". -/
  idle_iff : s.phase = .idle ↔ s.busy = false
  /-- R250, I14: ERR codes 5..15 are never written. -/
  err_le : s.err.toNat ≤ 4
  /-- R221: from acceptance to completion the status is clear. -/
  busy_clear : s.busy = true → s.err = 0 ∧ s.errInfo = 0 ∧ s.xferCode = 0 ∧ s.rspValid = 0
  /-- R231: a response register is valid only after a successful completion. -/
  valid_ok : s.rspValid ≠ 0 → s.busy = false ∧ s.err = 0
  /-- R229: RSP_VALID holds no other mask. -/
  valid_mask : s.rspValid = 0 ∨ s.rspValid = 0b111 ∨ s.rspValid = 0b001 ∨ s.rspValid = 0b010 ∨ s.rspValid = 0b100
  /-- R34: XFER_CODE is written only when a TransportError is raised. -/
  xfer_transport : s.err ≠ 1 → s.xferCode = 0
  /-- R199: a wait is outstanding only in the phase that asked for it. -/
  timer_temperature : s.timer = some .temperature → s.phase = .tWait
  timer_pressure : ∀ m, s.timer = some (.pressure m) → s.phase = .pWait ∧ m = s.mode
  /-- R223: an INIT in progress has passed its mode check. -/
  init_op : inInit s.phase = true → s.curOp.op = .init ∧ s.curOp.modeReq.toNat ≤ 3
  /-- R224: a reading in progress has a session. -/
  reading_op : inAcquisition s.phase = true → isReading s.curOp.op = true ∧ s.initDone = true
  /-- R198, R228: COMPUTE belongs to a reading or to a COMP that has passed its mode check. -/
  compute_op : s.phase = .compute →
    (isReading s.curOp.op = true ∧ s.initDone = true) ∨ (s.curOp.op = .comp ∧ s.curOp.modeReq.toNat ≤ 3)
  /-- R51, R128, R289: before the first commit the session is the reset one. -/
  no_session : s.initDone = false → s.cal = Vector.replicate 11 0 ∧ s.mode = 0 ∧ s.devAddr = 0

/-- R76, R77, R190, R286: how far the reading in progress has got, read from what the block has sent, newest first. -/
def ReadingOrder (s : State) : Prop :=
  match s.phase with
  | .tWait =>
    match s.timer with
    | none => ∃ before, s.issued = .busWrite s.devAddr 0xF4 0x2E :: before
    | some _ => ∃ before, s.issued = .wait .temperature :: .busWrite s.devAddr 0xF4 0x2E :: before
  | .tRd => ∃ before, s.issued = .wait .temperature :: .busWrite s.devAddr 0xF4 0x2E :: before
  | .pCmd =>
    ∃ before, s.issued = .busRead s.devAddr 0xF6 2 :: .wait .temperature :: .busWrite s.devAddr 0xF4 0x2E :: before
  | .pWait =>
    match s.timer with
    | none =>
      ∃ before, s.issued = .busWrite s.devAddr 0xF4 (readPressureByte s.mode) :: .busRead s.devAddr 0xF6 2
        :: .wait .temperature :: .busWrite s.devAddr 0xF4 0x2E :: before
    | some _ =>
      ∃ before, s.issued = .wait (.pressure s.mode) :: .busWrite s.devAddr 0xF4 (readPressureByte s.mode)
        :: .busRead s.devAddr 0xF6 2 :: .wait .temperature :: .busWrite s.devAddr 0xF4 0x2E :: before
  | .pRd =>
    ∃ before, s.issued = .wait (.pressure s.mode) :: .busWrite s.devAddr 0xF4 (readPressureByte s.mode)
      :: .busRead s.devAddr 0xF6 2 :: .wait .temperature :: .busWrite s.devAddr 0xF4 0x2E :: before
  | .compute =>
    isReading s.curOp.op = true →
      ∃ before, s.issued = .busRead s.devAddr 0xF6 3 :: .wait (.pressure s.mode)
        :: .busWrite s.devAddr 0xF4 (readPressureByte s.mode) :: .busRead s.devAddr 0xF6 2 :: .wait .temperature
        :: .busWrite s.devAddr 0xF4 0x2E :: before
  | .idle => True
  | .calRd _ => True
  | .calCommit => True
  | .tCmd => True

end Sys2Proof.Machine
end

