-- ==== Sys2Proof/Certificates/Slice0/Obligations.lean ====
section
/-! DEFINITION. The statements for the provers. A statement about one instruction or one phase gives the whole next state as an
equation, so it is also that step's frame: what the right side does not name is unchanged. -/

open Sys2Proof Sys2Proof.Machine

/-! Encodings. -/

/-- Words written out from spec/30_encoding.md R93, R94, R95, R100 and R101 decode to their instructions. -/
def Obligations.WordsDecodeAsTabled : Prop :=
  decode (.host 0x1000000000007703) = some (.init 0x77 3)
  ∧ decode (.host 0x2000000000000000) = some .readc
  ∧ decode (.host 0x3000000000000000) = some .gett
  ∧ decode (.host 0x4000000000000000) = some .getp
  ∧ decode (.host 0x5000000000000000) = some .geta
  ∧ decode (.host 0x60006CFA005D2302) = some (.comp 0x6CFA 0x005D23 2)
  ∧ decode (.sensor 0x2E) = some .readTemp
  ∧ decode (.sensor 0x34) = some (.readPressure 0)
  ∧ decode (.sensor 0x74) = some (.readPressure 1)
  ∧ decode (.sensor 0xB4) = some (.readPressure 2)
  ∧ decode (.sensor 0xF4) = some (.readPressure 3)

/-- No bit of an encoding is dropped, at any value of any operand (R93, R94, R95, R100, R101). -/
def Obligations.DecodeOfEncodeIsTheInstruction : Prop :=
  ∀ i : Instr, i.wellFormed = true → decode (encode i) = some i

/-- Each word has one meaning: a word that decodes is the encoding of what it decodes to. -/
def Obligations.EncodeOfDecodeIsTheWord : Prop :=
  ∀ (w : CommandWord) (i : Instr), decode w = some i → encode i = w

/-- R97, R254: which host words are reserved, and all that writing one to an idle block does. -/
def Obligations.ReservedHostWordRaisesIllegalOperation : Prop :=
  ∀ (s : State) (w : Word64) (rest : List HostAccess),
    nextAgent s = .host → s.host = .write 0 w :: rest → s.busy = false → s.phase = .idle →
    (w.toNat / 2 ^ 60 = 0 ∨ 7 ≤ w.toNat / 2 ^ 60
      ∨ w.toNat / 2 ^ 60 = 1 ∧ w.toNat / 2 ^ 16 % 2 ^ 44 ≠ 0
      ∨ 2 ≤ w.toNat / 2 ^ 60 ∧ w.toNat / 2 ^ 60 ≤ 5 ∧ w.toNat % 2 ^ 60 ≠ 0
      ∨ w.toNat / 2 ^ 60 = 6 ∧ w.toNat / 2 ^ 48 % 2 ^ 12 ≠ 0) →
    step s = .next
      { s with
        schedule := s.schedule.tail, host := rest
        err := 4, errInfo := BitVec.ofNat 8 (w.toNat / 2 ^ 60), xferCode := 0, rspValid := 0 }

/-- R99, R102: the five command bytes decode, and every other byte is rejected. -/
def Obligations.OnlyFiveSensorCommandBytes : Prop :=
  ∀ b : Byte, (∃ i, decode (.sensor b) = some i) ↔ b = 0x2E ∨ b = 0x34 ∨ b = 0x74 ∨ b = 0xB4 ∨ b = 0xF4

/-- R120, R121: the decoded constant by the source's formula, for every byte pair. -/
def Obligations.CalibrationPairDecodes : Prop :=
  ∀ hi lo : Byte,
    decodeS16 hi lo = (if 127 < hi.toNat then (hi.toNat : Int) - 256 else hi.toNat) * 256 + lo.toNat
    ∧ decodeU16 hi lo = (hi.toNat : Int) * 256 + lo.toNat

/-- R104, R105: the raw temperature and the raw pressure from their bytes, with the range of the pressure. -/
def Obligations.RawSampleAssembles : Prop :=
  (∀ d0 d1 : Byte, (utPair d0 d1).toNat = d0.toNat * 256 + d1.toNat)
  ∧ ∀ (msb lsb xlsb : Byte) (m : BitVec 2),
    (rawPressure (upTriple msb lsb xlsb) m).toNat
        = (msb.toNat * 2 ^ 16 + lsb.toNat * 2 ^ 8 + xlsb.toNat) / 2 ^ (8 - m.toNat)
    ∧ (rawPressure (upTriple msb lsb xlsb) m).toNat ≤ 2 ^ (16 + m.toNat) - 1

/-- R107, R108: what each statement of a host program assembles to, and that an operand too wide for its field of R93 or R95
is an error. That RUN of RD, WAIT or RUN is an error, and that WAIT is one access, is the model's choice (log entry 18: R108 gives
RUN for an operation, and WAIT as a loop of reads). -/
def Obligations.StatementsAssemble : Prop :=
  (∀ dev mode : Nat, dev < 2 ^ 8 → mode < 2 ^ 8 →
    assemble (.init dev mode) = some [.write 0 (BitVec.ofNat 64 (1 * 2 ^ 60 + dev * 2 ^ 8 + mode))])
  ∧ (∀ ut up mode : Nat, ut < 2 ^ 16 → up < 2 ^ 24 → mode < 2 ^ 8 →
    assemble (.comp ut up mode)
      = some [.write 0 (BitVec.ofNat 64 (6 * 2 ^ 60 + ut * 2 ^ 32 + up * 2 ^ 8 + mode))])
  ∧ assemble .readc = some [.write 0 0x2000000000000000]
  ∧ assemble .gett = some [.write 0 0x3000000000000000]
  ∧ assemble .getp = some [.write 0 0x4000000000000000]
  ∧ assemble .geta = some [.write 0 0x5000000000000000]
  ∧ (∀ w : Nat, w < 2 ^ 64 → assemble (.cmd w) = some [.write 0 (BitVec.ofNat 64 w)])
  ∧ (∀ r : RegName, assemble (.rd r) = some [.read (regIndex r)])
  ∧ assemble .wait = some [.waitIdle]
  ∧ (∀ (op : Statement) (l : List HostAccess), op.writesCmd = true → assemble op = some l →
    assemble (.run op) = some (l ++ [.waitIdle]))
  ∧ (∀ dev mode : Nat, 2 ^ 8 ≤ dev ∨ 2 ^ 8 ≤ mode → assemble (.init dev mode) = none)
  ∧ (∀ ut up mode : Nat, 2 ^ 16 ≤ ut ∨ 2 ^ 24 ≤ up ∨ 2 ^ 8 ≤ mode → assemble (.comp ut up mode) = none)
  ∧ (∀ w : Nat, 2 ^ 64 ≤ w → assemble (.cmd w) = none)
  ∧ (∀ op : Statement, assemble op = none → assemble (.run op) = none)
  ∧ (∀ r : RegName, assemble (.run (.rd r)) = none)
  ∧ assemble (.run .wait) = none
  ∧ (∀ op : Statement, assemble (.run (.run op)) = none)
  ∧ ∀ st : Statement, st.wellFormed = false → assemble st = none

/-! Fetch and step. -/

/-- A step runs the decoded instruction: exec on the state in which the schedule's entry is used up and, for a host command,
the command has left the host. -/
def Obligations.StepRunsTheDecodedInstruction : Prop :=
  ∀ (s : State) (w : CommandWord) (i : Instr),
    fetch s = some w → decode w = some i → step s = exec i (fetched w s)

/-- The word `withFetchWord` places is the word the next step fetches (log entry 12: the model's own convention). -/
def Obligations.PlacedWordIsFetched : Prop :=
  (∀ (s : State) (w : Nat), fetch (s.withFetchWord 64 w) = some (.host (BitVec.ofNat 64 w)))
  ∧ ∀ (s : State) (w : Nat) (i : Instr), w < 256 → decodeTableWord 8 w = some i →
    fetch (s.withFetchWord 8 w) = some (.sensor (BitVec.ofNat 8 w))

/-! Acceptance of the host operations. -/

/-- R221, R223: an INIT with a legal mode, accepted by an idle block, clears the status, latches its operands in CUR_OP and starts
the calibration load. -/
def Obligations.InitStartsTheCalibrationLoad : Prop :=
  ∀ (s : State) (dev m : Byte), s.busy = false → m.toNat ≤ 3 →
    ∃ c : CurOp, c.op = .init ∧ c.dev = dev ∧ c.modeReq = m
      ∧ exec (.init dev m) s = .next
        { s with
          err := 0, errInfo := 0, xferCode := 0, rspValid := 0
          curOp := c, busy := true, phase := .calRd 0 }

/-- R221, R224 to R227: each reading, accepted by an idle block with a session, clears the status, latches its name in CUR_OP
and starts at T_CMD. -/
def Obligations.ReadingsStartAtTCmd : Prop :=
  ∀ (s : State) (i : Instr) (op : HostOp),
    (i = .readc ∧ op = .readc) ∨ (i = .gett ∧ op = .gett) ∨ (i = .getp ∧ op = .getp) ∨ (i = .geta ∧ op = .geta) →
    s.busy = false → s.initDone = true →
    ∃ c : CurOp, c.op = op
      ∧ exec i s = .next
        { s with
          err := 0, errInfo := 0, xferCode := 0, rspValid := 0
          curOp := c, busy := true, phase := .tCmd }

/-- R221, R228: a COMP with a legal mode, accepted by an idle block with or without a session, latches its operands in CUR_OP and
its raw sample in UT_L and UP_L, and starts at COMPUTE. -/
def Obligations.CompStartsAtCompute : Prop :=
  ∀ (s : State) (ut : Half) (up : Triple) (m : Byte), s.busy = false → m.toNat ≤ 3 →
    ∃ c : CurOp, c.op = .comp ∧ c.ut = ut ∧ c.up = up ∧ c.modeReq = m
      ∧ exec (.comp ut up m) s = .next
        { s with
          err := 0, errInfo := 0, xferCode := 0, rspValid := 0
          curOp := c, utL := ut, upL := up, busy := true, phase := .compute }

/-- R253: INIT and COMP with MODE_REQ 4..255 end at acceptance in a ConfigurationError that records MODE_REQ. -/
def Obligations.IllegalModeRaisesConfigurationError : Prop :=
  ∀ (s : State) (m : Byte), s.busy = false → 4 ≤ m.toNat →
    (∀ dev : Byte, ∃ c : CurOp, c.op = .init ∧ c.dev = dev ∧ c.modeReq = m
      ∧ exec (.init dev m) s = .next
        { s with
          err := 3, errInfo := m, xferCode := 0, rspValid := 0
          curOp := c, busy := false, phase := .idle })
    ∧ ∀ (ut : Half) (up : Triple), ∃ c : CurOp, c.op = .comp ∧ c.ut = ut ∧ c.up = up ∧ c.modeReq = m
      ∧ exec (.comp ut up m) s = .next
        { s with
          err := 3, errInfo := m, xferCode := 0, rspValid := 0
          curOp := c, busy := false, phase := .idle }

/-- R224, R252: without a session each reading ends at acceptance in ArithmeticError 0xFF, and nothing is sent. -/
def Obligations.ReadingWithoutSessionRaisesArithmeticError : Prop :=
  ∀ (s : State) (i : Instr) (op : HostOp),
    (i = .readc ∧ op = .readc) ∨ (i = .gett ∧ op = .gett) ∨ (i = .getp ∧ op = .getp) ∨ (i = .geta ∧ op = .geta) →
    s.busy = false → s.initDone = false →
    ∃ c : CurOp, c.op = op
      ∧ exec i s = .next
        { s with
          err := 2, errInfo := 0xFF, xferCode := 0, rspValid := 0
          curOp := c, busy := false, phase := .idle }

/-- R220: while BUSY = 1 a CMD write is held. It stays the host's next access and no register changes; only the schedule's
entry is used up. While BUSY = 0 it is accepted in one step, whatever the word. -/
def Obligations.CommandWriteIsHeldWhileBusy : Prop :=
  ∀ (s : State) (w : Word64) (rest : List HostAccess),
    nextAgent s = .host → s.host = .write 0 w :: rest →
    (s.busy = true → step s = .next { s with schedule := s.schedule.tail })
    ∧ (s.busy = false → ∃ t : State, step s = .next t ∧ t.host = rest)

/-- The model's reading of a host operation executed while BUSY = 1 (R220; log entry 11): nothing changes. -/
def Obligations.HostOperationWhileBusyChangesNothing : Prop :=
  ∀ (s : State), s.busy = true →
    (∀ dev m : Byte, exec (.init dev m) s = .next s)
    ∧ exec .readc s = .next s ∧ exec .gett s = .next s ∧ exec .getp s = .next s ∧ exec .geta s = .next s
    ∧ ∀ (ut : Half) (up : Triple) (m : Byte), exec (.comp ut up m) s = .next s

/-- What no instruction writes, whatever it does: the session (CAL, MODE, DEV_ADDR, INIT_DONE), the stage, the response
registers, the strap, and what the host has seen and has still to do. -/
def Obligations.InstructionFrame : Prop :=
  ∀ (i : Instr) (s t : State), exec i s = .next t →
    t.cal = s.cal ∧ t.mode = s.mode ∧ t.devAddr = s.devAddr ∧ t.initDone = s.initDone
    ∧ t.calStage = s.calStage ∧ t.rspT10 = s.rspT10 ∧ t.rspTemp = s.rspTemp ∧ t.rspPress = s.rspPress
    ∧ t.rspAlt = s.rspAlt ∧ t.policy = s.policy ∧ t.timer = s.timer ∧ t.host = s.host
    ∧ t.hostSeen = s.hostSeen ∧ t.busSilent = s.busSilent ∧ t.schedule = s.schedule
    ∧ t.afterSchedule = s.afterSchedule

/-! The sensor command bytes. -/

/-- R191: READ_TEMP in T_CMD writes 0x2E to CONTROL of DEV_ADDR; on ok the phase is T_WAIT, on an error TransportError 0x10
is raised with the collaborator's code. -/
def Obligations.ReadTempWritesControl : Prop :=
  ∀ s : State, s.phase = .tCmd →
    (∀ d0 d1 d2 : Byte, busAnswer (.busWrite s.devAddr 0xF4 0x2E) s = some (.ok d0 d1 d2) →
      exec .readTemp s = .next
        { s with
          issued := .busWrite s.devAddr 0xF4 0x2E :: s.issued, bus := s.bus.tail, phase := .tWait })
    ∧ ∀ code : Word64, busAnswer (.busWrite s.devAddr 0xF4 0x2E) s = some (.error code) →
      exec .readTemp s = .next
        { s with
          issued := .busWrite s.devAddr 0xF4 0x2E :: s.issued, bus := s.bus.tail
          err := 1, errInfo := 0x10, xferCode := code, rspValid := 0, busy := false, phase := .idle }

/-- R101, R195: READ_PRESSURE in P_CMD writes 0x34 + (MODE << 6) to CONTROL of DEV_ADDR; on ok the phase is P_WAIT, on an
error TransportError 0x13 is raised with the collaborator's code. -/
def Obligations.ReadPressureWritesControl : Prop :=
  ∀ (s : State) (b : Byte), s.phase = .pCmd → b.toNat = 0x34 + s.mode.toNat * 2 ^ 6 →
    (∀ d0 d1 d2 : Byte, busAnswer (.busWrite s.devAddr 0xF4 b) s = some (.ok d0 d1 d2) →
      exec (.readPressure s.mode) s = .next
        { s with issued := .busWrite s.devAddr 0xF4 b :: s.issued, bus := s.bus.tail, phase := .pWait })
    ∧ ∀ code : Word64, busAnswer (.busWrite s.devAddr 0xF4 b) s = some (.error code) →
      exec (.readPressure s.mode) s = .next
        { s with
          issued := .busWrite s.devAddr 0xF4 b :: s.issued, bus := s.bus.tail
          err := 1, errInfo := 0x13, xferCode := code, rspValid := 0, busy := false, phase := .idle }

/-- The model's reading of a command byte executed where the block does not emit it (R76; log entry 11): nothing is sent and
nothing changes. -/
def Obligations.SensorCommandOutOfPhaseChangesNothing : Prop :=
  (∀ s : State, s.phase ≠ .tCmd → exec .readTemp s = .next s)
  ∧ ∀ (s : State) (oss : BitVec 2), s.phase ≠ .pCmd ∨ oss ≠ s.mode → exec (.readPressure oss) s = .next s

/-! The phases of the sequencer. -/

/-- R124: step CAL_RD(i), for each answer and each policy. -/
def Obligations.CalRdStagesOrFails : Prop :=
  ∀ (s : State) (i : Fin 11) (a : Byte), nextAgent s = .block → s.phase = .calRd i → a.toNat = 0xAA + 2 * i.val →
    (∀ d0 d1 d2 : Byte, busAnswer (.busRead s.curOp.dev a 2) s = some (.ok d0 d1 d2) →
      step s = .next
        { s with
          schedule := s.schedule.tail, issued := .busRead s.curOp.dev a 2 :: s.issued, bus := s.bus.tail
          calStage := s.calStage.set i (BitVec.ofNat 16 (d0.toNat * 256 + d1.toNat))
          phase := if h : i.val < 10 then .calRd ⟨i.val + 1, by omega⟩ else .calCommit })
    ∧ ∀ code : Word64, busAnswer (.busRead s.curOp.dev a 2) s = some (.error code) →
      (s.policy = .failFast →
        step s = .next
          { s with
            schedule := s.schedule.tail, issued := .busRead s.curOp.dev a 2 :: s.issued, bus := s.bus.tail
            err := 1, errInfo := a, xferCode := code, rspValid := 0, busy := false, phase := .idle })
      ∧ (s.policy = .referenceZeroFill →
        step s = .next
          { s with
            schedule := s.schedule.tail, issued := .busRead s.curOp.dev a 2 :: s.issued, bus := s.bus.tail
            calStage := s.calStage.set i 0
            phase := if h : i.val < 10 then .calRd ⟨i.val + 1, by omega⟩ else .calCommit })

/-- R127, R229: step CAL_COMMIT writes the session, all in one step, and completes the INIT with RSP_VALID = 0b000. -/
def Obligations.CalCommitWritesTheSession : Prop :=
  ∀ s : State, nextAgent s = .block → s.phase = .calCommit → s.curOp.op = .init →
    step s = .next
      { s with
        schedule := s.schedule.tail
        cal := s.calStage, mode := s.curOp.modeReq.setWidth 2, devAddr := s.curOp.dev, initDone := true
        rspValid := 0, err := 0, busy := false, phase := .idle }

/-- R192, R196, R199: a WAIT phase asks for its wait once, takes no step until the signal, and moves on at the signal; a wait
asked for is at least its lower bound. Three forms here are the model's: a wait is a request step and a signal step, and the
signal moves the phase (log entry 7); the bounds are counted in microseconds (log entry 6); the block's turn between request and
signal is a step that changes nothing (log entry 17). -/
def Obligations.WaitsRunFromRequestToSignal : Prop :=
  (∀ s : State, nextAgent s = .block → s.phase = .tWait → s.timer = none →
    step s = .next
      { s with
        schedule := s.schedule.tail, timer := some .temperature, issued := .wait .temperature :: s.issued })
  ∧ (∀ s : State, nextAgent s = .block → s.phase = .pWait → s.timer = none →
    step s = .next
      { s with
        schedule := s.schedule.tail, timer := some (.pressure s.mode), issued := .wait (.pressure s.mode) :: s.issued })
  ∧ (∀ s : State, nextAgent s = .block → (s.phase = .tWait ∨ s.phase = .pWait) → s.timer ≠ none →
    step s = .next { s with schedule := s.schedule.tail })
  ∧ (∀ s : State, nextAgent s = .timer → s.phase = .tWait → s.timer = some .temperature →
    step s = .next { s with schedule := s.schedule.tail, timer := none, phase := .tRd })
  ∧ (∀ s : State, nextAgent s = .timer → s.phase = .pWait → s.timer = some (.pressure s.mode) →
    step s = .next { s with schedule := s.schedule.tail, timer := none, phase := .pRd })
  ∧ 5000 ≤ waitDuration .temperature ∧ 5000 ≤ waitDuration (.pressure 0) ∧ 8000 ≤ waitDuration (.pressure 1)
  ∧ 14000 ≤ waitDuration (.pressure 2) ∧ 26000 ≤ waitDuration (.pressure 3)

/-- R193, R194: T_RD. -/
def Obligations.TRdLatchesTheRawTemperature : Prop :=
  ∀ s : State, nextAgent s = .block → s.phase = .tRd →
    (∀ d0 d1 d2 : Byte, busAnswer (.busRead s.devAddr 0xF6 2) s = some (.ok d0 d1 d2) →
      step s = .next
        { s with
          schedule := s.schedule.tail, issued := .busRead s.devAddr 0xF6 2 :: s.issued, bus := s.bus.tail
          utL := BitVec.ofNat 16 (d0.toNat * 256 + d1.toNat), phase := .pCmd })
    ∧ ∀ code : Word64, busAnswer (.busRead s.devAddr 0xF6 2) s = some (.error code) →
      step s = .next
        { s with
          schedule := s.schedule.tail, issued := .busRead s.devAddr 0xF6 2 :: s.issued, bus := s.bus.tail
          err := 1, errInfo := 0x12, xferCode := code, rspValid := 0, busy := false, phase := .idle }

/-- R197: P_RD. -/
def Obligations.PRdLatchesTheRawPressure : Prop :=
  ∀ s : State, nextAgent s = .block → s.phase = .pRd →
    (∀ d0 d1 d2 : Byte, busAnswer (.busRead s.devAddr 0xF6 3) s = some (.ok d0 d1 d2) →
      step s = .next
        { s with
          schedule := s.schedule.tail, issued := .busRead s.devAddr 0xF6 3 :: s.issued, bus := s.bus.tail
          upL := BitVec.ofNat 24
            ((d0.toNat * 2 ^ 16 + d1.toNat * 2 ^ 8 + d2.toNat) / 2 ^ (8 - s.mode.toNat))
          phase := .compute })
    ∧ ∀ code : Word64, busAnswer (.busRead s.devAddr 0xF6 3) s = some (.error code) →
      step s = .next
        { s with
          schedule := s.schedule.tail, issued := .busRead s.devAddr 0xF6 3 :: s.issued, bus := s.bus.tail
          err := 1, errInfo := 0x15, xferCode := code, rspValid := 0, busy := false, phase := .idle }

/-- R198, R229: COMPUTE writes the four response registers and RSP_VALID in one step, or raises the pipeline's
ArithmeticError and writes none. The mode is MODE for a reading and the operand for COMP. -/
def Obligations.ComputeWritesTheResponseOrFails : Prop :=
  ∀ (s : State) (m : BitVec 2) (mask : BitVec 3), nextAgent s = .block → s.phase = .compute →
    (s.curOp.op = .readc ∧ m = s.mode ∧ mask = 0b111 ∨ s.curOp.op = .gett ∧ m = s.mode ∧ mask = 0b001
      ∨ s.curOp.op = .getp ∧ m = s.mode ∧ mask = 0b010 ∨ s.curOp.op = .geta ∧ m = s.mode ∧ mask = 0b100
      ∨ s.curOp.op = .comp ∧ m.toNat = s.curOp.modeReq.toNat ∧ mask = 0b111) →
    (∀ r : Reading, pipe s.cal s.utL s.upL m = .ok r →
      step s = .next
        { s with
          schedule := s.schedule.tail
          rspT10 := r.t10, rspTemp := r.tempC, rspPress := r.press, rspAlt := r.alt
          rspValid := mask, err := 0, busy := false, phase := .idle })
    ∧ ∀ info : Byte, pipe s.cal s.utL s.upL m = .arithmeticError info →
      step s = .next
        { s with
          schedule := s.schedule.tail
          err := 2, errInfo := info, rspValid := 0, busy := false, phase := .idle }

/-! The host register file. -/

/-- R41: the register map, and that every other index is reserved. -/
def Obligations.RegisterMap : Prop :=
  regAt 0x00 = some .cmd ∧ regAt 0x01 = some .status ∧ regAt 0x02 = some .config ∧ regAt 0x03 = some .xfer
  ∧ regAt 0x04 = some .t10 ∧ regAt 0x05 = some .temp ∧ regAt 0x06 = some .press ∧ regAt 0x07 = some .alt
  ∧ (∀ i : Fin 11, regAt (BitVec.ofNat 5 (0x10 + i.val)) = some (.calv i))
  ∧ ∀ j : HostIndex, regAt j = none ↔ (0x08 ≤ j.toNat ∧ j.toNat ≤ 0x0F) ∨ 0x1B ≤ j.toNat

/-- R42: the fields of STATUS, and that a host write to it changes none of them: the host's access is over, and that is all. -/
def Obligations.StatusWordLayout : Prop :=
  (∀ (s : State) (w : Word64) (rest : List HostAccess), nextAgent s = .host → s.host = .write 0x01 w :: rest →
    step s = .next { s with schedule := s.schedule.tail, host := rest })
  ∧ ∀ s : State, ∃ v : Word64, readReg 0x01 s = .value v
    ∧ v.getLsbD 0 = s.busy ∧ v.getLsbD 1 = s.initDone ∧ v.extractLsb' 2 2 = 0
    ∧ v.extractLsb' 4 3 = s.rspValid ∧ v.getLsbD 7 = false ∧ v.extractLsb' 8 4 = s.err ∧ v.extractLsb' 12 4 = 0
    ∧ v.extractLsb' 16 8 = s.errInfo ∧ v.extractLsb' 24 8 = phaseCode s.phase ∧ v.extractLsb' 32 32 = 0

/-- R28: the encoding of PHASE, by number. -/
def Obligations.PhaseEncoding : Prop :=
  (phaseCode .idle).toNat = 0x00 ∧ (∀ i : Fin 11, (phaseCode (.calRd i)).toNat = 0x01 + i.val)
  ∧ (phaseCode .calCommit).toNat = 0x0C ∧ (phaseCode .tCmd).toNat = 0x10 ∧ (phaseCode .tWait).toNat = 0x11
  ∧ (phaseCode .tRd).toNat = 0x12 ∧ (phaseCode .pCmd).toNat = 0x13 ∧ (phaseCode .pWait).toNat = 0x14
  ∧ (phaseCode .pRd).toNat = 0x15 ∧ (phaseCode .compute).toNat = 0x18
  ∧ ∀ p q : Phase, phaseCode p = phaseCode q → p = q

/-- R43: the fields of CONFIG, and that the strap is fixed: no step changes it. -/
def Obligations.ConfigWordLayoutAndStrap : Prop :=
  (∀ s : State, ∃ v : Word64, readReg 0x02 s = .value v
    ∧ v.extractLsb' 0 2 = s.mode ∧ v.extractLsb' 2 6 = 0 ∧ v.extractLsb' 8 8 = s.devAddr
    ∧ v.getLsbD 16 = (s.policy == .referenceZeroFill) ∧ v.extractLsb' 17 47 = 0)
  ∧ ∀ s t : State, step s = .next t → t.policy = s.policy

/-- R44: CALV_i reads the constant's numeric value as a 64-bit two's-complement pattern. -/
def Obligations.CalvReadsTheNumericValue : Prop :=
  ∀ (s : State) (i : Fin 11), ∃ v : Word64, readReg (BitVec.ofNat 5 (0x10 + i.val)) s = .value v
    ∧ v.extractLsb' 0 16 = s.cal[i]
    ∧ v.toInt = (if i.val = 3 ∨ i.val = 4 ∨ i.val = 5 then (s.cal[i].toNat : Int) else s.cal[i].toInt)

/-- R45: a host read of a mapped index returns the value `readReg` gives it and has no side effect; a response register
whose RSP_VALID bit is 0 faults and a reserved index is refused. -/
def Obligations.HostReadReturnsOrStops : Prop :=
  ∀ (s : State) (j : HostIndex) (rest : List HostAccess), nextAgent s = .host → s.host = .read j :: rest →
    ((j.toNat ≤ 3 ∨ (0x10 ≤ j.toNat ∧ j.toNat ≤ 0x1A)
        ∨ ((j = 0x04 ∨ j = 0x05) ∧ s.rspValid.getLsbD 0 = true)
        ∨ (j = 0x06 ∧ s.rspValid.getLsbD 1 = true) ∨ (j = 0x07 ∧ s.rspValid.getLsbD 2 = true)) →
      ∃ v : Word64, readReg j s = .value v
        ∧ step s = .next { s with schedule := s.schedule.tail, host := rest, hostSeen := (j, v) :: s.hostSeen }
        ∧ (j = 0x00 → v = 0) ∧ (j = 0x03 → v = s.xferCode) ∧ (j = 0x04 → v.toInt = s.rspT10.toInt)
        ∧ (j = 0x05 → v = s.rspTemp) ∧ (j = 0x06 → v.toNat = s.rspPress.toNat) ∧ (j = 0x07 → v = s.rspAlt))
    ∧ (((j = 0x04 ∨ j = 0x05) ∧ s.rspValid.getLsbD 0 = false ∨ j = 0x06 ∧ s.rspValid.getLsbD 1 = false
        ∨ j = 0x07 ∧ s.rspValid.getLsbD 2 = false) →
      step s = .fault (.invalidResponse j))
    ∧ (((0x08 ≤ j.toNat ∧ j.toNat ≤ 0x0F) ∨ 0x1B ≤ j.toNat) → step s = .refused (.reservedRead j))

/-- R46: a host write to CMD of an idle block issues its command; to any other mapped index it has no effect; to a reserved
index it is refused. -/
def Obligations.HostWriteByIndex : Prop :=
  ∀ (s : State) (j : HostIndex) (w : Word64) (rest : List HostAccess),
    nextAgent s = .host → s.host = .write j w :: rest →
    (∀ i : Instr, j = 0 → s.busy = false → decode (.host w) = some i → step s = exec i (fetched (.host w) s))
    ∧ ((j ≠ 0 ∧ j.toNat ≤ 7 ∨ (0x10 ≤ j.toNat ∧ j.toNat ≤ 0x1A)) →
      step s = .next { s with schedule := s.schedule.tail, host := rest })
    ∧ (((0x08 ≤ j.toNat ∧ j.toNat ≤ 0x0F) ∨ 0x1B ≤ j.toNat) → step s = .refused (.reservedWrite j))

/-- R108: WAIT reads STATUS, and goes on exactly when BUSY is 0. -/
def Obligations.WaitPollsStatus : Prop :=
  ∀ (s : State) (rest : List HostAccess), nextAgent s = .host → s.host = .waitIdle :: rest →
    ∃ v : Word64, readReg 0x01 s = .value v
      ∧ step s = .next
        { s with
          schedule := s.schedule.tail, hostSeen := (0x01, v) :: s.hostSeen
          host := if v.getLsbD 0 then s.host else rest }

/-! Reset. -/

/-- R51: every value the spec gives for reset, and that the four response registers then read as no value. -/
def Obligations.ResetValues : Prop :=
  (∀ i : Fin 11, State.reset.cal[i] = 0)
  ∧ State.reset.mode = 0 ∧ State.reset.devAddr = 0 ∧ State.reset.initDone = false ∧ State.reset.busy = false
  ∧ State.reset.phase = .idle ∧ State.reset.err = 0 ∧ State.reset.errInfo = 0 ∧ State.reset.xferCode = 0
  ∧ State.reset.rspValid = 0
  ∧ readReg 0x04 State.reset = .noValue ∧ readReg 0x05 State.reset = .noValue
  ∧ readReg 0x06 State.reset = .noValue ∧ readReg 0x07 State.reset = .noValue

/-- R51, R280, R281: a reset event, in any state, sets every item R51 gives a value for, in one step, and leaves what has been
sent, what the bus collaborator has still to answer and the host's accesses as they are. That an outstanding wait request is
dropped (`t.timer = none`), so that a late signal has no effect, is the model's choice (log entry 7), as is the strap's being in
State (log entry 2). -/
def Obligations.ResetEventAbandonsTheOperation : Prop :=
  ∀ s : State, nextAgent s = .reset → ∃ t : State, step s = .next t
    ∧ (∀ i : Fin 11, t.cal[i] = 0) ∧ t.mode = 0 ∧ t.devAddr = 0 ∧ t.initDone = false ∧ t.busy = false
    ∧ t.phase = .idle ∧ t.err = 0 ∧ t.errInfo = 0 ∧ t.xferCode = 0 ∧ t.rspValid = 0
    ∧ t.policy = s.policy ∧ t.issued = s.issued ∧ t.bus = s.bus ∧ t.busSilent = s.busSilent
    ∧ t.host = s.host ∧ t.hostSeen = s.hostSeen ∧ t.timer = none

/-- R282: what the operations do from the state after reset. The step after the acceptance of COMP is the block's by the fair
order of log entry 10, the model's choice. -/
def Obligations.OperationsAfterReset : Prop :=
  (∀ i : Instr, i = .readc ∨ i = .gett ∨ i = .getp ∨ i = .geta →
    ∃ t, exec i State.reset = .next t ∧ t.err = 2 ∧ t.errInfo = 0xFF ∧ t.busy = false ∧ t.issued = [])
  ∧ (∀ (ut : Half) (up : Triple) (m : Byte), m.toNat ≤ 3 →
    ∃ t u, exec (.comp ut up m) State.reset = .next t ∧ t.busy = true
      ∧ step t = .next u ∧ u.err = 2 ∧ u.errInfo = 0x01 ∧ u.busy = false ∧ u.rspValid = 0)
  ∧ ∀ dev m : Byte, m.toNat ≤ 3 →
    ∃ t, exec (.init dev m) State.reset = .next t ∧ t.busy = true ∧ t.phase = .calRd 0 ∧ t.err = 0

/-! The pipeline. -/

/-- R9: each width function and each division is the one the rule defines; wrapping commutes with +, - and ×; and it does not
commute with a shift right or a division, as four values show. -/
def Obligations.WidthFunctionsFollowTheirDefinitions : Prop :=
  (∀ v w : Int, s32 v = w ↔ -(2 ^ 31) ≤ w ∧ w ≤ 2 ^ 31 - 1 ∧ (2 ^ 32 : Int) ∣ w - v)
  ∧ (∀ v w : Int, u32 v = w ↔ 0 ≤ w ∧ w ≤ 2 ^ 32 - 1 ∧ (2 ^ 32 : Int) ∣ w - v)
  ∧ (∀ h : Half, sext16 h = (if h.toNat < 2 ^ 15 then (h.toNat : Int) else h.toNat - 2 ^ 16) ∧ zext16 h = h.toNat)
  ∧ (∀ (v : Int) (n : Nat), -(2 ^ 31) ≤ v → v ≤ 2 ^ 31 - 1 → asr v n = ⌊(v : ℚ) / 2 ^ n⌋)
  ∧ (∀ (v : Int) (n : Nat), 0 ≤ v → v ≤ 2 ^ 32 - 1 → lsr v n = ⌊(v : ℚ) / 2 ^ n⌋)
  ∧ (∀ (v : Int) (n : Nat), shl32 v n = s32 (v * 2 ^ n))
  ∧ (∀ a b : Int, b ≠ 0 → tdiv a b = (a * b).sign * ⌊(|a| : ℚ) / (|b| : ℚ)⌋)
  ∧ (∀ a b : Int, 0 ≤ a → 0 < b → udiv a b = ⌊(a : ℚ) / b⌋)
  ∧ (∀ a b : Int, s32 (s32 a + s32 b) = s32 (a + b) ∧ s32 (s32 a - s32 b) = s32 (a - b)
    ∧ s32 (s32 a * s32 b) = s32 (a * b) ∧ u32 (u32 a + u32 b) = u32 (a + b)
    ∧ u32 (u32 a - u32 b) = u32 (a - b) ∧ u32 (u32 a * u32 b) = u32 (a * b))
  ∧ asr (s32 (2 ^ 31)) 1 ≠ s32 (asr (2 ^ 31) 1) ∧ lsr (u32 (2 ^ 32)) 1 ≠ u32 (lsr (2 ^ 32) 1)
  ∧ tdiv (s32 (2 ^ 31)) 2 ≠ s32 (tdiv (2 ^ 31) 2) ∧ udiv (u32 (2 ^ 32)) 2 ≠ u32 (udiv (2 ^ 32) 2)

/-- R143, R157, R166: the pipeline fails exactly on a zero divisor, the temperature divisor first. -/
def Obligations.PipelineErrorsInStepOrder : Prop :=
  ∀ (cal : CalFile) (ut : Half) (up : Triple) (m : BitVec 2) (info : Byte),
    pipe cal ut up m = .arithmeticError info ↔
      info = 0x01 ∧ valDEN (constants cal) ut.toNat = 0
      ∨ info = 0x02 ∧ valDEN (constants cal) ut.toNat ≠ 0 ∧ valB4 (constants cal) ut.toNat = 0

/-- R143, R157, R252: all-zero constants give ArithmeticError 0x01 for every raw sample and mode, and AC4 = 0 gives 0x02
whenever the temperature divisor is not 0. -/
def Obligations.DegenerateConstantsFail : Prop :=
  (∀ (ut : Half) (up : Triple) (m : BitVec 2),
    pipe (Vector.replicate 11 0) ut up m = .arithmeticError 0x01)
  ∧ ∀ (cal : CalFile) (ut : Half) (up : Triple) (m : BitVec 2),
    cal[3] = 0 → valDEN (constants cal) ut.toNat ≠ 0 → pipe cal ut up m = .arithmeticError 0x02

/-- R23: MB is read by no step. -/
def Obligations.PipelineIgnoresMB : Prop :=
  ∀ (cal : CalFile) (mb : Half) (ut : Half) (up : Triple) (m : BitVec 2),
    pipe (cal.set 8 mb) ut up m = pipe cal ut up m

/-- R168: the ranges of the intermediates and of the results, in a run that ends at a zero divisor those computed before it, and
that the two integers converted to binary64 are exact. -/
def Obligations.PipelineRanges : Prop :=
  ∀ (cal : CalFile) (utL : Half) (upL : Triple) (m : BitVec 2) (k : Constants) (ut up : Int) (mode : Nat),
    k = constants cal → ut = utL.toNat → up = upL.toNat → mode = m.toNat →
    (∀ v ∈ [valX1T k ut, valDEN k ut], -(2 ^ 31) ≤ v ∧ v ≤ 2 ^ 31 - 1)
    ∧ (valDEN k ut ≠ 0 →
      (∀ v ∈ [valX2T k ut, valB5 k ut, valT10 k ut, valB6 k ut, valSQ k ut, valX1A k ut, valX2A k ut, valX3A k ut,
          valB3NUM k ut mode, valB3 k ut mode, valX1B k ut, valX2B k ut, valX3B k ut],
        -(2 ^ 31) ≤ v ∧ v ≤ 2 ^ 31 - 1)
      ∧ -(2 ^ 27) ≤ valT10 k ut ∧ valT10 k ut ≤ 2 ^ 27 - 1
      ∧ 0 ≤ valB4 k ut ∧ valB4 k ut ≤ 2 ^ 17 - 1
      ∧ value64 (f64OfInt (valT10 k ut)) = some (valT10 k ut : ℚ))
    ∧ (valDEN k ut ≠ 0 → valB4 k ut ≠ 0 →
      (∀ v ∈ [valP k ut up mode, valX1C0 k ut up mode, valX1C k ut up mode, valX2C k ut up mode],
        -(2 ^ 31) ≤ v ∧ v ≤ 2 ^ 31 - 1)
      ∧ 1 ≤ valB4 k ut ∧ valB4 k ut ≤ 2 ^ 17 - 1
      ∧ 0 ≤ valB7 k ut up mode ∧ valB7 k ut up mode ≤ 2 ^ 32 - 1
      ∧ 0 ≤ valPRESS k ut up mode ∧ valPRESS k ut up mode ≤ 2 ^ 32 - 1
      ∧ value64 (f64OfInt (valPRESS k ut up mode)) = some (valPRESS k ut up mode : ℚ))

/-- R164: the altitude of a pressure, with the literals 44330.0, 1.0, 101325.0 and 0.1903 as their binary64 patterns; the ratio is
a number that is not negative; and the two corner cases, up to the value POW64 gives there. -/
def Obligations.AltitudeOfPressure : Prop :=
  (∀ press : Int,
    stepALT press
      = f64Mul 0x40E5A54000000000
        (f64Sub 0x3FF0000000000000
          (Config.pow64 (f64Div (f64OfInt press) 0x40F8BCD000000000) 0x3FC85BC01A36E2EB)))
  ∧ (∀ press : Int, 0 ≤ press → press ≤ 2 ^ 32 - 1 →
    ∃ q : ℚ, value64 (f64Div (f64OfInt press) 0x40F8BCD000000000) = some q ∧ 0 ≤ q)
  ∧ f64Div (f64OfInt 101325) 0x40F8BCD000000000 = 0x3FF0000000000000
  ∧ f64Mul 0x40E5A54000000000 (f64Sub 0x3FF0000000000000 0x3FF0000000000000) = 0
  ∧ f64Div (f64OfInt 0) 0x40F8BCD000000000 = 0
  ∧ f64Mul 0x40E5A54000000000 (f64Sub 0x3FF0000000000000 0) = 0x40E5A54000000000

/-- R10, "rounded to nearest, ties to even": a ratio below (2^54 - 1) × 2^970, half a unit past the largest finite value, rounds
to a binary64 value that no other beats, and where another is as near, the significand (bit 0 of the pattern) is even. That every
larger ratio rounds to infinity is taken from IEEE 754 (log entry 19, PRESUMED). -/
def Obligations.RoundingIsToNearest : Prop :=
  ∀ num den : Nat, 0 < den →
    (num < (2 ^ 54 - 1) * 2 ^ 970 * den →
      ∃ q : ℚ, value64 (signed64 false (roundRatio num den)) = some q
        ∧ ∀ (y : Binary64) (r : ℚ), value64 y = some r →
          |q - (num : ℚ) / den| ≤ |r - (num : ℚ) / den|
          ∧ (|q - (num : ℚ) / den| = |r - (num : ℚ) / den| → r ≠ q →
            (signed64 false (roundRatio num den)).getLsbD 0 = false))
    ∧ ((2 ^ 54 - 1) * 2 ^ 970 * den ≤ num → roundRatio num den = infMagnitude)

/-- R146: TEMP_C is the binary64 quotient of T10 and 10.0 (0x4024000000000000), it is a binary64 value nearest to T10 / 10 for
every T10 the pipeline gives, and T10 = 0 gives +0.0. -/
def Obligations.TempCIsNearestToTenths : Prop :=
  (∀ t : Int, stepTempC t = f64Div (f64OfInt t) 0x4024000000000000)
  ∧ (∀ t : Int, -(2 ^ 27) ≤ t → t ≤ 2 ^ 27 - 1 → ∃ q : ℚ, value64 (stepTempC t) = some q
    ∧ ∀ (y : Binary64) (r : ℚ), value64 y = some r → |q - (t : ℚ) / 10| ≤ |r - (t : ℚ) / 10|)
  ∧ stepTempC 0 = 0

/-- R169: on the no-wrap domain PIPE's integer results are those of the source's formulas over unbounded integers with the
single formula for p; off it they can differ, as the rule's two examples on the fixture constants show. Two things are the model's
reading (log entry 16, DEDUCED): the unbounded formulas guard their two divisions as R143 and R157 do, and in a run that ends at
a zero divisor the domain asks of the steps computed before it, and of the second condition when B3 is among them. -/
def Obligations.WideFormulaAgreesOnNoWrapDomain : Prop :=
  (∀ (cal : CalFile) (ut : Half) (up : Triple) (m : BitVec 2),
    noWrap (constants cal) ut.toNat up.toNat m.toNat = true →
    (∀ t10 press : Int, widePipe (constants cal) ut.toNat up.toNat m.toNat = .ok t10 press →
      pipe cal ut up m = .ok
        { t10 := BitVec.ofInt 32 t10, tempC := stepTempC t10
          press := BitVec.ofInt 32 press, alt := stepALT press })
    ∧ ∀ info : Byte, widePipe (constants cal) ut.toNat up.toNat m.toNat = .zeroDivisor info →
      pipe cal ut up m = .arithmeticError info)
  ∧ ∀ k : Constants,
    k = constants #v[0x0198, 0xFFB8, 0xC7D1, 0x7FE5, 0x7FF5, 0x5A71, 0x182E, 0x0004, 0x8000, 0xDDF9, 0x0B34] →
    valB7 k 27898 45000 0 = 0x84DA50A0
    ∧ valPRESS k 27898 45000 0 = 133323 ∧ widePipe k 27898 45000 0 = .ok 150 133324
    ∧ valPRESS k 27898 100 0 = 253019 ∧ widePipe k 27898 100 0 = .ok 150 (-719)
    ∧ noWrap k 27898 45000 0 = false ∧ noWrap k 27898 100 0 = false

/-- R167: COMPUTE depends on CAL, the raw sample, the mode and the operation alone: two blocks that agree on these, whatever
else they hold, get the same error or the same response; and it makes no bus transaction and no timer request. -/
def Obligations.ComputeDependsOnItsOperandsAlone : Prop :=
  ∀ s t s' t' : State, nextAgent s = .block → nextAgent t = .block → s.phase = .compute → t.phase = .compute →
    s.cal = t.cal → s.utL = t.utL → s.upL = t.upL → s.mode = t.mode → s.curOp.op = t.curOp.op →
    s.curOp.modeReq = t.curOp.modeReq → step s = .next s' → step t = .next t' →
    s'.issued = s.issued ∧ s'.timer = s.timer ∧ s'.err = t'.err ∧ s'.rspValid = t'.rspValid
    ∧ (s'.err ≠ 0 → s'.errInfo = t'.errInfo)
    ∧ (s'.err = 0 → s'.rspT10 = t'.rspT10 ∧ s'.rspTemp = t'.rspTemp ∧ s'.rspPress = t'.rspPress
      ∧ s'.rspAlt = t'.rspAlt)

/-! Rules about the whole machine. -/

/-- The invariant of the registers (Safety.lean) holds right after reset. -/
def Obligations.ResetMeetsTheInvariant : Prop := RegInv State.reset

/-- Every step keeps the invariant of the registers. -/
def Obligations.StepKeepsTheInvariant : Prop :=
  ∀ s t : State, RegInv s → step s = .next t → RegInv t

/-- R75, R76, R77, R190, R286: every step keeps the order of a reading's transactions: a result is read only after the command
was written, the wait asked for and the signal given, and COMPUTE of a reading comes after all six, with one MODE and one
DEV_ADDR throughout. -/
def Obligations.StepKeepsTheReadingOrder : Prop :=
  ∀ s t : State, RegInv s → ReadingOrder s → step s = .next t → ReadingOrder t

/-- R22, R26, R128: CAL, MODE, DEV_ADDR and INIT_DONE change only in CAL_COMMIT and at reset, and INIT_DONE falls only at
reset. -/
def Obligations.SessionChangesOnlyAtCommitOrReset : Prop :=
  ∀ s t : State, step s = .next t → nextAgent s ≠ .reset →
    (¬(nextAgent s = .block ∧ s.phase = .calCommit) →
      t.cal = s.cal ∧ t.mode = s.mode ∧ t.devAddr = s.devAddr ∧ t.initDone = s.initDone)
    ∧ (s.initDone = true → t.initDone = true)

/-- R75, R99, R102, R71, R61: a step sends at most one transaction; what it writes is one of the five command bytes, to
CONTROL of DEV_ADDR; what it reads is a calibration pair of CUR_OP.dev or the result register of DEV_ADDR. -/
def Obligations.StepSendsAtMostOneLegalTransaction : Prop :=
  ∀ s t : State, step s = .next t →
    t.issued = s.issued ∨ ∃ x : Transaction, t.issued = x :: s.issued
      ∧ (∀ dev reg b : Byte, x = .busWrite dev reg b →
          dev = s.devAddr ∧ reg = 0xF4 ∧ (b = 0x2E ∨ b = 0x34 ∨ b = 0x74 ∨ b = 0xB4 ∨ b = 0xF4))
      ∧ ∀ (dev reg : Byte) (n : Nat), x = .busRead dev reg n →
          (dev = s.devAddr ∧ reg = 0xF6 ∧ (n = 2 ∨ n = 3))
          ∨ (dev = s.curOp.dev ∧ n = 2 ∧ ∃ i : Fin 11, reg.toNat = 0xAA + 2 * i.val)

/-- R198, R257: the response registers are written only by a COMPUTE that succeeds, and by reset. -/
def Obligations.ResponseWrittenOnlyByASuccessfulCompute : Prop :=
  ∀ s t : State, step s = .next t → nextAgent s ≠ .reset →
    (t.rspT10 = s.rspT10 ∧ t.rspTemp = s.rspTemp ∧ t.rspPress = s.rspPress ∧ t.rspAlt = s.rspAlt)
    ∨ (nextAgent s = .block ∧ s.phase = .compute ∧ t.err = 0 ∧ t.busy = false)

/-- R256, R257: an operation that ends in an error leaves the session and the response registers as they were, with no
response valid and the block idle. -/
def Obligations.FailedOperationLeavesNoPartialResult : Prop :=
  ∀ s t : State, RegInv s → step s = .next t → s.busy = true → t.busy = false → t.err ≠ 0 →
    t.cal = s.cal ∧ t.mode = s.mode ∧ t.devAddr = s.devAddr ∧ t.initDone = s.initDone
    ∧ t.rspT10 = s.rspT10 ∧ t.rspTemp = s.rspTemp ∧ t.rspPress = s.rspPress ∧ t.rspAlt = s.rspAlt
    ∧ t.rspValid = 0 ∧ t.phase = .idle ∧ (t.err ≠ 1 → t.xferCode = 0)

/-- R258: ERR, ERR_INFO and XFER_CODE of an idle block keep their values until a command is accepted or the block is reset,
and acceptance clears them: XFER_CODE whatever the word, ERR and ERR_INFO unless the acceptance itself raises. -/
def Obligations.ErrorStatusPersistsUntilAcceptance : Prop :=
  ∀ s t : State, RegInv s → s.busy = false → step s = .next t → nextAgent s ≠ .reset →
    (¬(nextAgent s = .host ∧ ∃ (w : Word64) (rest : List HostAccess), s.host = .write 0 w :: rest) →
      t.err = s.err ∧ t.errInfo = s.errInfo ∧ t.xferCode = s.xferCode ∧ t.rspValid = s.rspValid ∧ t.busy = false)
    ∧ (nextAgent s = .host → (∃ (w : Word64) (rest : List HostAccess), s.host = .write 0 w :: rest) →
      t.xferCode = 0 ∧ t.rspValid = 0 ∧ (t.busy = true → t.err = 0 ∧ t.errInfo = 0)
        ∧ (t.busy = false → t.err = 2 ∧ t.errInfo = 0xFF ∨ t.err = 3 ∨ t.err = 4))

/-- R295, under its two premises: the bus collaborator answers every transaction (`busSilent` is false) and every wait is signalled
(the fair order: nothing is left of the schedule and no agent is alone for ever). Every operation then completes within its number
of block steps, and a CMD write that was held meanwhile is accepted next. The fair order is log entry 10's, and the signals of the
two waits are steps of their own, counted beside the block's (log entry 7): both are the model's choice. -/
def Obligations.OperationsCompleteInBoundedSteps : Prop :=
  ∀ s : State, RegInv s → s.schedule = [] → s.afterSchedule = none → s.busSilent = false → s.busy = true →
    ∃ n : Nat, (s.phase = .calRd 0 → n ≤ 12) ∧ (s.phase = .tCmd → n ≤ 7 + 2) ∧ (s.phase = .compute → n = 1)
      ∧ ∃ t : State, Host.Core.run core n s = .next t ∧ t.busy = false
        ∧ ∀ (w : Word64) (rest : List HostAccess), s.host = .write 0 w :: rest →
          ∃ u : State, step t = .next u ∧ u.host = rest

/-- R295, I12, without its premises: the block stays in its phase with BUSY = 1, for ever if need be, and no error is reported.
A block step whose transaction gets no answer changes nothing; a silent bus collaborator, a timer that never signals and a block
that never moves each hold the block for any number of steps, while a CMD write stays held and WAIT goes on polling. That silence
is a field of State and what follows the schedule another is the model's choice (log entries 3 and 10). -/
def Obligations.UnansweredOperationWaits : Prop :=
  (∀ s : State, nextAgent s = .block → s.bus = [] → s.busSilent = true →
    ((∃ i : Fin 11, s.phase = .calRd i) ∨ s.phase = .tCmd ∨ s.phase = .tRd ∨ s.phase = .pCmd ∨ s.phase = .pRd) →
    step s = .next { s with schedule := s.schedule.tail })
  ∧ (∀ (s : State) (n : Nat), s.schedule = [] → s.afterSchedule = none → s.busy = true → s.timer = none →
    s.bus = [] → s.busSilent = true →
    ((∃ i : Fin 11, s.phase = .calRd i) ∨ s.phase = .tCmd ∨ s.phase = .tRd ∨ s.phase = .pCmd ∨ s.phase = .pRd) →
    Host.Core.run core n s = .next s)
  ∧ (∀ (s : State) (n : Nat), s.schedule = [] → s.afterSchedule = some .block →
    s.phase = .tWait ∨ s.phase = .pWait → s.timer ≠ none → Host.Core.run core n s = .next s)
  ∧ (∀ (s : State) (w : Word64) (rest : List HostAccess) (n : Nat), s.schedule = [] → s.afterSchedule = some .host →
    s.busy = true → s.host = .write 0 w :: rest → Host.Core.run core n s = .next s)
  ∧ ∀ (s : State) (v : Word64) (rest : List HostAccess) (n : Nat), s.schedule = [] → s.afterSchedule = some .host →
    s.busy = true → s.host = .waitIdle :: rest → readReg 0x01 s = .value v →
    Host.Core.run core n s = .next { s with hostSeen := List.replicate n (0x01, v) ++ s.hostSeen }

/-- R123, R127, R223: an INIT whose eleven reads succeed reads the pairs in order, each once and nothing else, and commits
them with its operands. The number of steps rests on the fair order of log entry 10, the model's choice. -/
def Obligations.InitLoadsTheElevenPairs : Prop :=
  ∀ (s : State) (hi lo x : Vector Byte 11) (rest : List BusAnswer), RegInv s → s.schedule = [] →
    s.afterSchedule = none → s.phase = .calRd 0 →
    s.bus = (List.ofFn fun i : Fin 11 => BusAnswer.ok hi[i] lo[i] x[i]) ++ rest →
    ∃ t : State, Host.Core.run core 12 s = .next t
      ∧ (∀ i : Fin 11, t.cal[i].toNat = hi[i].toNat * 256 + lo[i].toNat)
      ∧ t.mode.toNat = s.curOp.modeReq.toNat ∧ t.devAddr = s.curOp.dev ∧ t.initDone = true
      ∧ t.busy = false ∧ t.phase = .idle ∧ t.err = 0 ∧ t.rspValid = 0 ∧ t.bus = rest
      ∧ t.issued = (List.ofFn fun i : Fin 11 =>
          Transaction.busRead s.curOp.dev (BitVec.ofNat 8 (0xAA + 2 * i.val)) 2).reverse ++ s.issued

/-- R190, R202, R224 to R227: a reading whose four transactions succeed takes a fresh temperature and a fresh pressure sample, in
that order, and ends with the pipeline's result for them at MODE, valid as its operation's mask says. The number of steps rests
on two choices of the model: the fair order (log entry 10) and the signal of a wait as a step of its own (log entry 7). -/
def Obligations.ReadingDeliversTheCompensatedSample : Prop :=
  ∀ (s : State) (w0 w1 w2 t0 t1 t2 v0 v1 v2 p0 p1 p2 : Byte) (rest : List BusAnswer) (r : Reading) (up : Triple),
    RegInv s → s.schedule = [] → s.afterSchedule = none → s.phase = .tCmd →
    s.bus = .ok w0 w1 w2 :: .ok t0 t1 t2 :: .ok v0 v1 v2 :: .ok p0 p1 p2 :: rest →
    up.toNat = (p0.toNat * 2 ^ 16 + p1.toNat * 2 ^ 8 + p2.toNat) / 2 ^ (8 - s.mode.toNat) →
    pipe s.cal (BitVec.ofNat 16 (t0.toNat * 256 + t1.toNat)) up s.mode = .ok r →
    ∃ t : State, Host.Core.run core 9 s = .next t
      ∧ t.rspT10 = r.t10 ∧ t.rspTemp = r.tempC ∧ t.rspPress = r.press ∧ t.rspAlt = r.alt
      ∧ t.busy = false ∧ t.phase = .idle ∧ t.err = 0 ∧ t.bus = rest
      ∧ (s.curOp.op = .readc → t.rspValid = 0b111) ∧ (s.curOp.op = .gett → t.rspValid = 0b001)
      ∧ (s.curOp.op = .getp → t.rspValid = 0b010) ∧ (s.curOp.op = .geta → t.rspValid = 0b100)
      ∧ t.issued = .busRead s.devAddr 0xF6 3 :: .wait (.pressure s.mode)
          :: .busWrite s.devAddr 0xF4 (readPressureByte s.mode) :: .busRead s.devAddr 0xF6 2 :: .wait .temperature
          :: .busWrite s.devAddr 0xF4 0x2E :: s.issued
end

