-- ==== Sys2Proof/Laws/Arith.lean ====
section
/-! SUPPORT. The width functions and the data formats: their ranges, and when they change nothing. -/

namespace Sys2Proof.Machine

theorem s32_range (v : Int) : -2147483648 ≤ s32 v ∧ s32 v ≤ 2147483647 := by
  have h := Int.le_bmod (x := v) (m := 4294967296) (by decide)
  have h' := Int.bmod_lt (x := v) (m := 4294967296) (by decide)
  unfold s32
  omega

theorem s32_of_fits {v : Int} (h : -2147483648 ≤ v) (h' : v ≤ 2147483647) : s32 v = v := by
  unfold s32
  rw [Int.bmod_def]
  split <;> omega

theorem u32_range (v : Int) : 0 ≤ u32 v ∧ u32 v ≤ 4294967295 := by
  unfold u32
  omega

theorem u32_of_fits {v : Int} (h : 0 ≤ v) (h' : v ≤ 4294967295) : u32 v = v := by
  unfold u32
  omega

theorem sext16_eq_toInt (h : Half) : sext16 h = h.toInt := by
  unfold sext16
  rw [BitVec.toInt_eq_toNat_cond]
  split <;> split <;> omega

theorem sext16_range (h : Half) : -32768 ≤ sext16 h ∧ sext16 h ≤ 32767 := by
  have := h.isLt
  unfold sext16
  split <;> omega

theorem zext16_range (h : Half) : 0 ≤ zext16 h ∧ zext16 h ≤ 65535 := by
  have := h.isLt
  unfold zext16
  omega

theorem calPair_toNat (hi lo : Byte) : (calPair hi lo).toNat = hi.toNat * 256 + lo.toNat := by
  have := hi.isLt
  have := lo.isLt
  simp only [calPair, BitVec.toNat_ofNat]
  omega

theorem utPair_toNat (d0 d1 : Byte) : (utPair d0 d1).toNat = d0.toNat * 256 + d1.toNat := by
  have := d0.isLt
  have := d1.isLt
  simp only [utPair, BitVec.toNat_ofNat]
  omega

theorem upTriple_toNat (m l x : Byte) :
    (upTriple m l x).toNat = m.toNat * 2 ^ 16 + l.toNat * 2 ^ 8 + x.toNat := by
  have := m.isLt
  have := l.isLt
  have := x.isLt
  simp only [upTriple, BitVec.toNat_ofNat]
  omega

theorem rawPressure_toNat (raw24 : Triple) (mode : BitVec 2) :
    (rawPressure raw24 mode).toNat = raw24.toNat / 2 ^ (8 - mode.toNat) := by
  simp [rawPressure, Nat.shiftRight_eq_div_pow]

end Sys2Proof.Machine
end

