-- ==== Sys2Proof/Laws/Binary64.lean ====
section
/-! SUPPORT. What the parts of the binary64 rounding do: the rounded integer is nearest, the exponent brackets the ratio, and
which rational a pattern stands for. -/

namespace Sys2Proof.Machine

/-- No integer is nearer to a / b. -/
theorem roundHalfEven_nearest (a b : Nat) (hb : 0 < b) (z : Int) :
   |((roundHalfEven a b : Nat) : ℚ) - (a : ℚ) / b| ≤ |(z : ℚ) - (a : ℚ) / b| := by
  have hbq : (0:ℚ) < b := by exact_mod_cast hb
  have e1 : (a : ℚ) = b * (a / b : Nat) + (a % b : Nat) := by exact_mod_cast (Nat.div_add_mod a b).symm
  have hr : a % b < b := Nat.mod_lt _ hb
  set q := a / b with hq
  set r := a % b with hrr
  have e2 : (a : ℚ) / b = q + r / b := by rw [e1]; field_simp
  have hr1 : (r : ℚ) / b < 1 := by rw [div_lt_one hbq]; exact_mod_cast hr
  have hr0 : (0:ℚ) ≤ (r : ℚ) / b := by positivity
  -- distance of any integer
  have hz : min ((r : ℚ) / b) (1 - r / b) ≤ |(z : ℚ) - (a : ℚ) / b| := by
    rw [e2]
    rcases le_or_gt z q with h | h
    · have : (z : ℚ) ≤ q := by exact_mod_cast h
      apply le_trans (min_le_left _ _)
      rw [abs_sub_comm, abs_of_nonneg (by linarith)]; linarith
    · have : (q : ℚ) + 1 ≤ z := by exact_mod_cast h
      apply le_trans (min_le_right _ _)
      rw [abs_of_nonneg (by linarith)]; linarith
  refine le_trans (le_of_eq ?_) hz
  unfold roundHalfEven
  simp only [← hq, ← hrr]
  split_ifs with hc
  · have : (1:ℚ) ≤ 2 * (r / b) := by
      rw [mul_div_assoc', le_div_iff₀ hbq]
      have : b ≤ 2 * r := by omega
      exact_mod_cast (by omega : 1 * b ≤ 2 * r)
    rw [min_eq_right (by linarith), e2]; push_cast
    rw [abs_of_nonneg (by linarith)]; ring
  · have : 2 * ((r:ℚ) / b) ≤ 1 := by
      rw [mul_div_assoc', div_le_iff₀ hbq]
      have : 2 * r ≤ b := by omega
      exact_mod_cast (by omega : 2 * r ≤ 1 * b)
    rw [min_eq_left (by linarith), e2];
    rw [abs_sub_comm, abs_of_nonneg (by linarith)]; ring

/-- floorLog2 brackets the ratio between two powers of two. -/
theorem floorLog2_spec (n d : Nat) (hn : n ≠ 0) (hd : d ≠ 0) : (2:ℚ) ^ (floorLog2 n d) ≤ (n:ℚ)/d ∧ (n:ℚ)/d < (2:ℚ)^(floorLog2 n d + 1) := by
  have a1 : 2 ^ n.log2 ≤ n := Nat.log2_self_le hn
  have a2 : n < 2 ^ (n.log2+1) := Nat.lt_log2_self
  have b1 : 2 ^ d.log2 ≤ d := Nat.log2_self_le hd
  have b2 : d < 2 ^ (d.log2+1) := Nat.lt_log2_self
  have a1q : (2:ℚ)^(n.log2:ℤ) ≤ n := by exact_mod_cast a1
  have a2q : (n:ℚ) < (2:ℚ)^((n.log2:ℤ)+1) := by exact_mod_cast a2
  have b1q : (2:ℚ)^(d.log2:ℤ) ≤ d := by exact_mod_cast b1
  have b2q : (d:ℚ) < (2:ℚ)^((d.log2:ℤ)+1) := by exact_mod_cast b2
  have hdq : (0:ℚ) < d := by exact_mod_cast Nat.pos_of_ne_zero hd
  have h2 : (2:ℚ) ≠ 0 := by norm_num
  set l : Int := (n.log2 : Int) - (d.log2 : Int) with hl
  have key : (d * 2 ^ l.toNat ≤ n * 2 ^ (-l).toNat) ↔ (2:ℚ)^l ≤ (n:ℚ)/d := by
    have : (2:ℚ)^l = (2:ℚ)^(l.toNat) / (2:ℚ)^((-l).toNat) := by
      rw [← zpow_natCast, ← zpow_natCast, ← zpow_sub₀ h2]; congr 1; omega
    rw [this, le_div_iff₀ hdq, div_mul_eq_mul_div, div_le_iff₀ (by positivity)]
    constructor
    · intro h; have : ((d * 2 ^ l.toNat : Nat) : ℚ) ≤ ((n * 2 ^ (-l).toNat : Nat) : ℚ) := by exact_mod_cast h
      push_cast at this; linarith
    · intro h; have : ((d * 2 ^ l.toNat : Nat) : ℚ) ≤ ((n * 2 ^ (-l).toNat : Nat) : ℚ) := by push_cast; linarith
      exact_mod_cast this
  have up : (n:ℚ)/d < (2:ℚ)^(l+1) := by
    rw [div_lt_iff₀ hdq]
    calc (n:ℚ) < (2:ℚ)^((n.log2:ℤ)+1) := a2q
      _ = (2:ℚ)^(l+1) * (2:ℚ)^(d.log2:ℤ) := by rw [← zpow_add₀ h2]; congr 1; omega
      _ ≤ _ := by gcongr
  have lo : (2:ℚ)^(l-1) < (n:ℚ)/d := by
    rw [lt_div_iff₀ hdq]
    calc (2:ℚ)^(l-1) * d < (2:ℚ)^(l-1) * (2:ℚ)^((d.log2:ℤ)+1) := by gcongr
      _ = (2:ℚ)^(n.log2:ℤ) := by rw [← zpow_add₀ h2]; congr 1; omega
      _ ≤ n := a1q
  unfold floorLog2
  simp only [← hl]
  split_ifs with h
  · exact ⟨key.mp h, up⟩
  · rw [key] at h
    exact ⟨lo.le, by simpa using lt_of_not_ge h⟩

/-- The value of a pattern with sign bit 0 below infinity. -/
theorem value64_of_magnitude (M : Nat) (hM : M < infMagnitude) :
  value64 (signed64 false M) = some (if M < 2^52 then (M:ℚ) * 2^(-1074:ℤ) else ((2^52 + M % 2^52 : Nat):ℚ) * (2:ℚ)^(((M/2^52 : Nat):ℤ) - 1075)) := by
  have : infMagnitude = 9218868437227405312 := by decide
  have hn : (signed64 false M).toNat = M := by
    simp [signed64]; omega
  have s0 : M / 2^63 = 0 := by omega
  unfold value64 unpack64
  simp only [hn]
  have e : M / 2^52 % 2^11 = M / 2^52 := by omega
  rw [e]
  have ne : M / 2^52 ≠ 2047 := by omega
  simp only [if_neg ne]
  by_cases h : M < 2^52
  · have : M / 2^52 = 0 := by omega
    have m : M % 2^52 = M := by omega
    rw [if_pos this, if_pos h, m]
    simp only [s0, signedMant]; simp
  · have : M / 2^52 ≠ 0 := by omega
    rw [if_neg this, if_neg h]
    simp only [s0, signedMant]; simp; left; norm_cast

/-- A finite value is an integer of at most 53 bits times a power of two no smaller than 2^(-1074). -/
theorem value64_form (y : Binary64) (r : ℚ) (h : value64 y = some r) :
   ∃ (z : Int) (v : Int), r = z * (2:ℚ)^v ∧ -1074 ≤ v ∧ |z| < 2^53 := by
  unfold value64 at h
  split at h
  · cases h
  · cases h
  · next s m e hu =>
    injection h with h
    refine ⟨signedMant s m, e, h.symm, ?_⟩
    unfold unpack64 at hu
    simp only at hu
    have habs : |signedMant s m| = m := by unfold signedMant; split <;> simp
    rw [habs]
    split_ifs at hu with h1 h2 h3
    · simp at hu; obtain ⟨_, rfl, rfl⟩ := hu; refine ⟨le_refl _, ?_⟩; push_cast; omega
    · simp at hu; obtain ⟨_, rfl, rfl⟩ := hu; constructor
      · omega
      · push_cast; omega

/-- The pattern that roundRatio builds from a significand q and its unit 2^u stands for q × 2^u. -/
theorem value64_of_significand (u : Int) (q : Nat) (hu : -1074 ≤ u) (hq : q ≤ 2^53) (hl : -1074 < u → 2^52 ≤ q)
   (hM : (u+1074).toNat * 2^52 + q < infMagnitude) :
   value64 (signed64 false ((u+1074).toNat * 2^52 + q)) = some ((q:ℚ) * (2:ℚ)^u) := by
  rw [value64_of_magnitude _ hM]
  congr 1
  obtain ⟨n, hn⟩ := Int.eq_ofNat_of_zero_le (by omega : 0 ≤ u + 1074)
  have hu' : u = n - 1074 := by omega
  subst hu'
  have ht : ((n:ℤ) - 1074 + 1074).toNat = n := by omega
  rw [ht] at hM ⊢
  split_ifs with h
  · have : n = 0 := by omega
    subst this; simp
  · rcases Nat.lt_or_ge q (2^53) with h53 | h53
    · rcases Nat.lt_or_ge q (2^52) with h52 | h52
      · have : n = 0 := by by_contra hne; have := hl (by omega); omega
        subst this; omega
      · have e1 : (n * 2^52 + q) / 2^52 = n + 1 := by omega
        have e2 : 2^52 + (n * 2^52 + q) % 2^52 = q := by omega
        rw [e1, e2]; push_cast; congr 2; ring
    · have : q = 2^53 := by omega
      subst this
      have e1 : (n * 2^52 + 2^53) / 2^52 = n + 2 := by omega
      have e2 : (n * 2^52 + 2^53) % 2^52 = 0 := by omega
      rw [e1, e2]
      have : (2:ℚ)^(((n+2:Nat):ℤ) - 1075) = 2 * (2:ℚ)^((n:ℤ)-1074) := by
        have : (((n+2:Nat):ℤ) - 1075) = ((n:ℤ)-1074) + 1 := by push_cast; ring
        rw [this, zpow_add₀ (by norm_num)]; ring
      rw [this]; push_cast; ring

end Sys2Proof.Machine
end

