-- ==== Sys2Proof/Laws/State.lean ====
section
/-! SUPPORT. What each shared state update writes and what it leaves: one lemma per field per update, so that no later proof
unfolds a record update. -/

namespace Sys2Proof.Machine

@[simp] theorem clearStatus_cal (s : State) : (clearStatus s).cal = s.cal := rfl
@[simp] theorem clearStatus_mode (s : State) : (clearStatus s).mode = s.mode := rfl
@[simp] theorem clearStatus_devAddr (s : State) : (clearStatus s).devAddr = s.devAddr := rfl
@[simp] theorem clearStatus_initDone (s : State) : (clearStatus s).initDone = s.initDone := rfl
@[simp] theorem clearStatus_busy (s : State) : (clearStatus s).busy = s.busy := rfl
@[simp] theorem clearStatus_phase (s : State) : (clearStatus s).phase = s.phase := rfl
@[simp] theorem clearStatus_curOp (s : State) : (clearStatus s).curOp = s.curOp := rfl
@[simp] theorem clearStatus_calStage (s : State) : (clearStatus s).calStage = s.calStage := rfl
@[simp] theorem clearStatus_utL (s : State) : (clearStatus s).utL = s.utL := rfl
@[simp] theorem clearStatus_upL (s : State) : (clearStatus s).upL = s.upL := rfl
@[simp] theorem clearStatus_err (s : State) : (clearStatus s).err = 0 := rfl
@[simp] theorem clearStatus_errInfo (s : State) : (clearStatus s).errInfo = 0 := rfl
@[simp] theorem clearStatus_xferCode (s : State) : (clearStatus s).xferCode = 0 := rfl
@[simp] theorem clearStatus_rspValid (s : State) : (clearStatus s).rspValid = 0 := rfl
@[simp] theorem clearStatus_rspT10 (s : State) : (clearStatus s).rspT10 = s.rspT10 := rfl
@[simp] theorem clearStatus_rspTemp (s : State) : (clearStatus s).rspTemp = s.rspTemp := rfl
@[simp] theorem clearStatus_rspPress (s : State) : (clearStatus s).rspPress = s.rspPress := rfl
@[simp] theorem clearStatus_rspAlt (s : State) : (clearStatus s).rspAlt = s.rspAlt := rfl
@[simp] theorem clearStatus_policy (s : State) : (clearStatus s).policy = s.policy := rfl
@[simp] theorem clearStatus_timer (s : State) : (clearStatus s).timer = s.timer := rfl
@[simp] theorem clearStatus_issued (s : State) : (clearStatus s).issued = s.issued := rfl
@[simp] theorem clearStatus_host (s : State) : (clearStatus s).host = s.host := rfl
@[simp] theorem clearStatus_hostSeen (s : State) : (clearStatus s).hostSeen = s.hostSeen := rfl
@[simp] theorem clearStatus_bus (s : State) : (clearStatus s).bus = s.bus := rfl
@[simp] theorem clearStatus_busSilent (s : State) : (clearStatus s).busSilent = s.busSilent := rfl
@[simp] theorem clearStatus_schedule (s : State) : (clearStatus s).schedule = s.schedule := rfl
@[simp] theorem clearStatus_afterSchedule (s : State) : (clearStatus s).afterSchedule = s.afterSchedule := rfl

@[simp] theorem latchOp_cal (c : CurOp) (s : State) : (latchOp c s).cal = s.cal := rfl
@[simp] theorem latchOp_mode (c : CurOp) (s : State) : (latchOp c s).mode = s.mode := rfl
@[simp] theorem latchOp_devAddr (c : CurOp) (s : State) : (latchOp c s).devAddr = s.devAddr := rfl
@[simp] theorem latchOp_initDone (c : CurOp) (s : State) : (latchOp c s).initDone = s.initDone := rfl
@[simp] theorem latchOp_busy (c : CurOp) (s : State) : (latchOp c s).busy = s.busy := rfl
@[simp] theorem latchOp_phase (c : CurOp) (s : State) : (latchOp c s).phase = s.phase := rfl
@[simp] theorem latchOp_curOp (c : CurOp) (s : State) : (latchOp c s).curOp = c := rfl
@[simp] theorem latchOp_calStage (c : CurOp) (s : State) : (latchOp c s).calStage = s.calStage := rfl
@[simp] theorem latchOp_utL (c : CurOp) (s : State) : (latchOp c s).utL = s.utL := rfl
@[simp] theorem latchOp_upL (c : CurOp) (s : State) : (latchOp c s).upL = s.upL := rfl
@[simp] theorem latchOp_err (c : CurOp) (s : State) : (latchOp c s).err = s.err := rfl
@[simp] theorem latchOp_errInfo (c : CurOp) (s : State) : (latchOp c s).errInfo = s.errInfo := rfl
@[simp] theorem latchOp_xferCode (c : CurOp) (s : State) : (latchOp c s).xferCode = s.xferCode := rfl
@[simp] theorem latchOp_rspValid (c : CurOp) (s : State) : (latchOp c s).rspValid = s.rspValid := rfl
@[simp] theorem latchOp_rspT10 (c : CurOp) (s : State) : (latchOp c s).rspT10 = s.rspT10 := rfl
@[simp] theorem latchOp_rspTemp (c : CurOp) (s : State) : (latchOp c s).rspTemp = s.rspTemp := rfl
@[simp] theorem latchOp_rspPress (c : CurOp) (s : State) : (latchOp c s).rspPress = s.rspPress := rfl
@[simp] theorem latchOp_rspAlt (c : CurOp) (s : State) : (latchOp c s).rspAlt = s.rspAlt := rfl
@[simp] theorem latchOp_policy (c : CurOp) (s : State) : (latchOp c s).policy = s.policy := rfl
@[simp] theorem latchOp_timer (c : CurOp) (s : State) : (latchOp c s).timer = s.timer := rfl
@[simp] theorem latchOp_issued (c : CurOp) (s : State) : (latchOp c s).issued = s.issued := rfl
@[simp] theorem latchOp_host (c : CurOp) (s : State) : (latchOp c s).host = s.host := rfl
@[simp] theorem latchOp_hostSeen (c : CurOp) (s : State) : (latchOp c s).hostSeen = s.hostSeen := rfl
@[simp] theorem latchOp_bus (c : CurOp) (s : State) : (latchOp c s).bus = s.bus := rfl
@[simp] theorem latchOp_busSilent (c : CurOp) (s : State) : (latchOp c s).busSilent = s.busSilent := rfl
@[simp] theorem latchOp_schedule (c : CurOp) (s : State) : (latchOp c s).schedule = s.schedule := rfl
@[simp] theorem latchOp_afterSchedule (c : CurOp) (s : State) : (latchOp c s).afterSchedule = s.afterSchedule := rfl

@[simp] theorem startAt_cal (p : Phase) (s : State) : (startAt p s).cal = s.cal := rfl
@[simp] theorem startAt_mode (p : Phase) (s : State) : (startAt p s).mode = s.mode := rfl
@[simp] theorem startAt_devAddr (p : Phase) (s : State) : (startAt p s).devAddr = s.devAddr := rfl
@[simp] theorem startAt_initDone (p : Phase) (s : State) : (startAt p s).initDone = s.initDone := rfl
@[simp] theorem startAt_busy (p : Phase) (s : State) : (startAt p s).busy = true := rfl
@[simp] theorem startAt_phase (p : Phase) (s : State) : (startAt p s).phase = p := rfl
@[simp] theorem startAt_curOp (p : Phase) (s : State) : (startAt p s).curOp = s.curOp := rfl
@[simp] theorem startAt_calStage (p : Phase) (s : State) : (startAt p s).calStage = s.calStage := rfl
@[simp] theorem startAt_utL (p : Phase) (s : State) : (startAt p s).utL = s.utL := rfl
@[simp] theorem startAt_upL (p : Phase) (s : State) : (startAt p s).upL = s.upL := rfl
@[simp] theorem startAt_err (p : Phase) (s : State) : (startAt p s).err = s.err := rfl
@[simp] theorem startAt_errInfo (p : Phase) (s : State) : (startAt p s).errInfo = s.errInfo := rfl
@[simp] theorem startAt_xferCode (p : Phase) (s : State) : (startAt p s).xferCode = s.xferCode := rfl
@[simp] theorem startAt_rspValid (p : Phase) (s : State) : (startAt p s).rspValid = s.rspValid := rfl
@[simp] theorem startAt_rspT10 (p : Phase) (s : State) : (startAt p s).rspT10 = s.rspT10 := rfl
@[simp] theorem startAt_rspTemp (p : Phase) (s : State) : (startAt p s).rspTemp = s.rspTemp := rfl
@[simp] theorem startAt_rspPress (p : Phase) (s : State) : (startAt p s).rspPress = s.rspPress := rfl
@[simp] theorem startAt_rspAlt (p : Phase) (s : State) : (startAt p s).rspAlt = s.rspAlt := rfl
@[simp] theorem startAt_policy (p : Phase) (s : State) : (startAt p s).policy = s.policy := rfl
@[simp] theorem startAt_timer (p : Phase) (s : State) : (startAt p s).timer = s.timer := rfl
@[simp] theorem startAt_issued (p : Phase) (s : State) : (startAt p s).issued = s.issued := rfl
@[simp] theorem startAt_host (p : Phase) (s : State) : (startAt p s).host = s.host := rfl
@[simp] theorem startAt_hostSeen (p : Phase) (s : State) : (startAt p s).hostSeen = s.hostSeen := rfl
@[simp] theorem startAt_bus (p : Phase) (s : State) : (startAt p s).bus = s.bus := rfl
@[simp] theorem startAt_busSilent (p : Phase) (s : State) : (startAt p s).busSilent = s.busSilent := rfl
@[simp] theorem startAt_schedule (p : Phase) (s : State) : (startAt p s).schedule = s.schedule := rfl
@[simp] theorem startAt_afterSchedule (p : Phase) (s : State) : (startAt p s).afterSchedule = s.afterSchedule := rfl

@[simp] theorem goto_cal (p : Phase) (s : State) : (goto p s).cal = s.cal := rfl
@[simp] theorem goto_mode (p : Phase) (s : State) : (goto p s).mode = s.mode := rfl
@[simp] theorem goto_devAddr (p : Phase) (s : State) : (goto p s).devAddr = s.devAddr := rfl
@[simp] theorem goto_initDone (p : Phase) (s : State) : (goto p s).initDone = s.initDone := rfl
@[simp] theorem goto_busy (p : Phase) (s : State) : (goto p s).busy = s.busy := rfl
@[simp] theorem goto_phase (p : Phase) (s : State) : (goto p s).phase = p := rfl
@[simp] theorem goto_curOp (p : Phase) (s : State) : (goto p s).curOp = s.curOp := rfl
@[simp] theorem goto_calStage (p : Phase) (s : State) : (goto p s).calStage = s.calStage := rfl
@[simp] theorem goto_utL (p : Phase) (s : State) : (goto p s).utL = s.utL := rfl
@[simp] theorem goto_upL (p : Phase) (s : State) : (goto p s).upL = s.upL := rfl
@[simp] theorem goto_err (p : Phase) (s : State) : (goto p s).err = s.err := rfl
@[simp] theorem goto_errInfo (p : Phase) (s : State) : (goto p s).errInfo = s.errInfo := rfl
@[simp] theorem goto_xferCode (p : Phase) (s : State) : (goto p s).xferCode = s.xferCode := rfl
@[simp] theorem goto_rspValid (p : Phase) (s : State) : (goto p s).rspValid = s.rspValid := rfl
@[simp] theorem goto_rspT10 (p : Phase) (s : State) : (goto p s).rspT10 = s.rspT10 := rfl
@[simp] theorem goto_rspTemp (p : Phase) (s : State) : (goto p s).rspTemp = s.rspTemp := rfl
@[simp] theorem goto_rspPress (p : Phase) (s : State) : (goto p s).rspPress = s.rspPress := rfl
@[simp] theorem goto_rspAlt (p : Phase) (s : State) : (goto p s).rspAlt = s.rspAlt := rfl
@[simp] theorem goto_policy (p : Phase) (s : State) : (goto p s).policy = s.policy := rfl
@[simp] theorem goto_timer (p : Phase) (s : State) : (goto p s).timer = s.timer := rfl
@[simp] theorem goto_issued (p : Phase) (s : State) : (goto p s).issued = s.issued := rfl
@[simp] theorem goto_host (p : Phase) (s : State) : (goto p s).host = s.host := rfl
@[simp] theorem goto_hostSeen (p : Phase) (s : State) : (goto p s).hostSeen = s.hostSeen := rfl
@[simp] theorem goto_bus (p : Phase) (s : State) : (goto p s).bus = s.bus := rfl
@[simp] theorem goto_busSilent (p : Phase) (s : State) : (goto p s).busSilent = s.busSilent := rfl
@[simp] theorem goto_schedule (p : Phase) (s : State) : (goto p s).schedule = s.schedule := rfl
@[simp] theorem goto_afterSchedule (p : Phase) (s : State) : (goto p s).afterSchedule = s.afterSchedule := rfl

@[simp] theorem raise_cal (e : OpError) (s : State) : (raise e s).cal = s.cal := rfl
@[simp] theorem raise_mode (e : OpError) (s : State) : (raise e s).mode = s.mode := rfl
@[simp] theorem raise_devAddr (e : OpError) (s : State) : (raise e s).devAddr = s.devAddr := rfl
@[simp] theorem raise_initDone (e : OpError) (s : State) : (raise e s).initDone = s.initDone := rfl
@[simp] theorem raise_busy (e : OpError) (s : State) : (raise e s).busy = false := rfl
@[simp] theorem raise_phase (e : OpError) (s : State) : (raise e s).phase = .idle := rfl
@[simp] theorem raise_curOp (e : OpError) (s : State) : (raise e s).curOp = s.curOp := rfl
@[simp] theorem raise_calStage (e : OpError) (s : State) : (raise e s).calStage = s.calStage := rfl
@[simp] theorem raise_utL (e : OpError) (s : State) : (raise e s).utL = s.utL := rfl
@[simp] theorem raise_upL (e : OpError) (s : State) : (raise e s).upL = s.upL := rfl
@[simp] theorem raise_err (e : OpError) (s : State) : (raise e s).err = e.code := rfl
@[simp] theorem raise_errInfo (e : OpError) (s : State) : (raise e s).errInfo = e.info := rfl
@[simp] theorem raise_xferCode (e : OpError) (s : State) : (raise e s).xferCode = e.xferCode s.xferCode := rfl
@[simp] theorem raise_rspValid (e : OpError) (s : State) : (raise e s).rspValid = 0 := rfl
@[simp] theorem raise_rspT10 (e : OpError) (s : State) : (raise e s).rspT10 = s.rspT10 := rfl
@[simp] theorem raise_rspTemp (e : OpError) (s : State) : (raise e s).rspTemp = s.rspTemp := rfl
@[simp] theorem raise_rspPress (e : OpError) (s : State) : (raise e s).rspPress = s.rspPress := rfl
@[simp] theorem raise_rspAlt (e : OpError) (s : State) : (raise e s).rspAlt = s.rspAlt := rfl
@[simp] theorem raise_policy (e : OpError) (s : State) : (raise e s).policy = s.policy := rfl
@[simp] theorem raise_timer (e : OpError) (s : State) : (raise e s).timer = s.timer := rfl
@[simp] theorem raise_issued (e : OpError) (s : State) : (raise e s).issued = s.issued := rfl
@[simp] theorem raise_host (e : OpError) (s : State) : (raise e s).host = s.host := rfl
@[simp] theorem raise_hostSeen (e : OpError) (s : State) : (raise e s).hostSeen = s.hostSeen := rfl
@[simp] theorem raise_bus (e : OpError) (s : State) : (raise e s).bus = s.bus := rfl
@[simp] theorem raise_busSilent (e : OpError) (s : State) : (raise e s).busSilent = s.busSilent := rfl
@[simp] theorem raise_schedule (e : OpError) (s : State) : (raise e s).schedule = s.schedule := rfl
@[simp] theorem raise_afterSchedule (e : OpError) (s : State) : (raise e s).afterSchedule = s.afterSchedule := rfl

@[simp] theorem completeOk_cal (s : State) : (completeOk s).cal = s.cal := rfl
@[simp] theorem completeOk_mode (s : State) : (completeOk s).mode = s.mode := rfl
@[simp] theorem completeOk_devAddr (s : State) : (completeOk s).devAddr = s.devAddr := rfl
@[simp] theorem completeOk_initDone (s : State) : (completeOk s).initDone = s.initDone := rfl
@[simp] theorem completeOk_busy (s : State) : (completeOk s).busy = false := rfl
@[simp] theorem completeOk_phase (s : State) : (completeOk s).phase = .idle := rfl
@[simp] theorem completeOk_curOp (s : State) : (completeOk s).curOp = s.curOp := rfl
@[simp] theorem completeOk_calStage (s : State) : (completeOk s).calStage = s.calStage := rfl
@[simp] theorem completeOk_utL (s : State) : (completeOk s).utL = s.utL := rfl
@[simp] theorem completeOk_upL (s : State) : (completeOk s).upL = s.upL := rfl
@[simp] theorem completeOk_err (s : State) : (completeOk s).err = 0 := rfl
@[simp] theorem completeOk_errInfo (s : State) : (completeOk s).errInfo = s.errInfo := rfl
@[simp] theorem completeOk_xferCode (s : State) : (completeOk s).xferCode = s.xferCode := rfl
@[simp] theorem completeOk_rspValid (s : State) : (completeOk s).rspValid = validMask s.curOp.op := rfl
@[simp] theorem completeOk_rspT10 (s : State) : (completeOk s).rspT10 = s.rspT10 := rfl
@[simp] theorem completeOk_rspTemp (s : State) : (completeOk s).rspTemp = s.rspTemp := rfl
@[simp] theorem completeOk_rspPress (s : State) : (completeOk s).rspPress = s.rspPress := rfl
@[simp] theorem completeOk_rspAlt (s : State) : (completeOk s).rspAlt = s.rspAlt := rfl
@[simp] theorem completeOk_policy (s : State) : (completeOk s).policy = s.policy := rfl
@[simp] theorem completeOk_timer (s : State) : (completeOk s).timer = s.timer := rfl
@[simp] theorem completeOk_issued (s : State) : (completeOk s).issued = s.issued := rfl
@[simp] theorem completeOk_host (s : State) : (completeOk s).host = s.host := rfl
@[simp] theorem completeOk_hostSeen (s : State) : (completeOk s).hostSeen = s.hostSeen := rfl
@[simp] theorem completeOk_bus (s : State) : (completeOk s).bus = s.bus := rfl
@[simp] theorem completeOk_busSilent (s : State) : (completeOk s).busSilent = s.busSilent := rfl
@[simp] theorem completeOk_schedule (s : State) : (completeOk s).schedule = s.schedule := rfl
@[simp] theorem completeOk_afterSchedule (s : State) : (completeOk s).afterSchedule = s.afterSchedule := rfl

@[simp] theorem busIssue_cal (x : Transaction) (s : State) : (busIssue x s).cal = s.cal := rfl
@[simp] theorem busIssue_mode (x : Transaction) (s : State) : (busIssue x s).mode = s.mode := rfl
@[simp] theorem busIssue_devAddr (x : Transaction) (s : State) : (busIssue x s).devAddr = s.devAddr := rfl
@[simp] theorem busIssue_initDone (x : Transaction) (s : State) : (busIssue x s).initDone = s.initDone := rfl
@[simp] theorem busIssue_busy (x : Transaction) (s : State) : (busIssue x s).busy = s.busy := rfl
@[simp] theorem busIssue_phase (x : Transaction) (s : State) : (busIssue x s).phase = s.phase := rfl
@[simp] theorem busIssue_curOp (x : Transaction) (s : State) : (busIssue x s).curOp = s.curOp := rfl
@[simp] theorem busIssue_calStage (x : Transaction) (s : State) : (busIssue x s).calStage = s.calStage := rfl
@[simp] theorem busIssue_utL (x : Transaction) (s : State) : (busIssue x s).utL = s.utL := rfl
@[simp] theorem busIssue_upL (x : Transaction) (s : State) : (busIssue x s).upL = s.upL := rfl
@[simp] theorem busIssue_err (x : Transaction) (s : State) : (busIssue x s).err = s.err := rfl
@[simp] theorem busIssue_errInfo (x : Transaction) (s : State) : (busIssue x s).errInfo = s.errInfo := rfl
@[simp] theorem busIssue_xferCode (x : Transaction) (s : State) : (busIssue x s).xferCode = s.xferCode := rfl
@[simp] theorem busIssue_rspValid (x : Transaction) (s : State) : (busIssue x s).rspValid = s.rspValid := rfl
@[simp] theorem busIssue_rspT10 (x : Transaction) (s : State) : (busIssue x s).rspT10 = s.rspT10 := rfl
@[simp] theorem busIssue_rspTemp (x : Transaction) (s : State) : (busIssue x s).rspTemp = s.rspTemp := rfl
@[simp] theorem busIssue_rspPress (x : Transaction) (s : State) : (busIssue x s).rspPress = s.rspPress := rfl
@[simp] theorem busIssue_rspAlt (x : Transaction) (s : State) : (busIssue x s).rspAlt = s.rspAlt := rfl
@[simp] theorem busIssue_policy (x : Transaction) (s : State) : (busIssue x s).policy = s.policy := rfl
@[simp] theorem busIssue_timer (x : Transaction) (s : State) : (busIssue x s).timer = s.timer := rfl
@[simp] theorem busIssue_issued (x : Transaction) (s : State) : (busIssue x s).issued = x :: s.issued := rfl
@[simp] theorem busIssue_host (x : Transaction) (s : State) : (busIssue x s).host = s.host := rfl
@[simp] theorem busIssue_hostSeen (x : Transaction) (s : State) : (busIssue x s).hostSeen = s.hostSeen := rfl
@[simp] theorem busIssue_bus (x : Transaction) (s : State) : (busIssue x s).bus = s.bus.tail := rfl
@[simp] theorem busIssue_busSilent (x : Transaction) (s : State) : (busIssue x s).busSilent = s.busSilent := rfl
@[simp] theorem busIssue_schedule (x : Transaction) (s : State) : (busIssue x s).schedule = s.schedule := rfl
@[simp] theorem busIssue_afterSchedule (x : Transaction) (s : State) : (busIssue x s).afterSchedule = s.afterSchedule := rfl

@[simp] theorem requestWait_cal (w : WaitKind) (s : State) : (requestWait w s).cal = s.cal := rfl
@[simp] theorem requestWait_mode (w : WaitKind) (s : State) : (requestWait w s).mode = s.mode := rfl
@[simp] theorem requestWait_devAddr (w : WaitKind) (s : State) : (requestWait w s).devAddr = s.devAddr := rfl
@[simp] theorem requestWait_initDone (w : WaitKind) (s : State) : (requestWait w s).initDone = s.initDone := rfl
@[simp] theorem requestWait_busy (w : WaitKind) (s : State) : (requestWait w s).busy = s.busy := rfl
@[simp] theorem requestWait_phase (w : WaitKind) (s : State) : (requestWait w s).phase = s.phase := rfl
@[simp] theorem requestWait_curOp (w : WaitKind) (s : State) : (requestWait w s).curOp = s.curOp := rfl
@[simp] theorem requestWait_calStage (w : WaitKind) (s : State) : (requestWait w s).calStage = s.calStage := rfl
@[simp] theorem requestWait_utL (w : WaitKind) (s : State) : (requestWait w s).utL = s.utL := rfl
@[simp] theorem requestWait_upL (w : WaitKind) (s : State) : (requestWait w s).upL = s.upL := rfl
@[simp] theorem requestWait_err (w : WaitKind) (s : State) : (requestWait w s).err = s.err := rfl
@[simp] theorem requestWait_errInfo (w : WaitKind) (s : State) : (requestWait w s).errInfo = s.errInfo := rfl
@[simp] theorem requestWait_xferCode (w : WaitKind) (s : State) : (requestWait w s).xferCode = s.xferCode := rfl
@[simp] theorem requestWait_rspValid (w : WaitKind) (s : State) : (requestWait w s).rspValid = s.rspValid := rfl
@[simp] theorem requestWait_rspT10 (w : WaitKind) (s : State) : (requestWait w s).rspT10 = s.rspT10 := rfl
@[simp] theorem requestWait_rspTemp (w : WaitKind) (s : State) : (requestWait w s).rspTemp = s.rspTemp := rfl
@[simp] theorem requestWait_rspPress (w : WaitKind) (s : State) : (requestWait w s).rspPress = s.rspPress := rfl
@[simp] theorem requestWait_rspAlt (w : WaitKind) (s : State) : (requestWait w s).rspAlt = s.rspAlt := rfl
@[simp] theorem requestWait_policy (w : WaitKind) (s : State) : (requestWait w s).policy = s.policy := rfl
@[simp] theorem requestWait_timer (w : WaitKind) (s : State) : (requestWait w s).timer = some w := rfl
@[simp] theorem requestWait_issued (w : WaitKind) (s : State) : (requestWait w s).issued = .wait w :: s.issued := rfl
@[simp] theorem requestWait_host (w : WaitKind) (s : State) : (requestWait w s).host = s.host := rfl
@[simp] theorem requestWait_hostSeen (w : WaitKind) (s : State) : (requestWait w s).hostSeen = s.hostSeen := rfl
@[simp] theorem requestWait_bus (w : WaitKind) (s : State) : (requestWait w s).bus = s.bus := rfl
@[simp] theorem requestWait_busSilent (w : WaitKind) (s : State) : (requestWait w s).busSilent = s.busSilent := rfl
@[simp] theorem requestWait_schedule (w : WaitKind) (s : State) : (requestWait w s).schedule = s.schedule := rfl
@[simp] theorem requestWait_afterSchedule (w : WaitKind) (s : State) : (requestWait w s).afterSchedule = s.afterSchedule := rfl

@[simp] theorem writeResponse_cal (r : Reading) (s : State) : (writeResponse r s).cal = s.cal := rfl
@[simp] theorem writeResponse_mode (r : Reading) (s : State) : (writeResponse r s).mode = s.mode := rfl
@[simp] theorem writeResponse_devAddr (r : Reading) (s : State) : (writeResponse r s).devAddr = s.devAddr := rfl
@[simp] theorem writeResponse_initDone (r : Reading) (s : State) : (writeResponse r s).initDone = s.initDone := rfl
@[simp] theorem writeResponse_busy (r : Reading) (s : State) : (writeResponse r s).busy = s.busy := rfl
@[simp] theorem writeResponse_phase (r : Reading) (s : State) : (writeResponse r s).phase = s.phase := rfl
@[simp] theorem writeResponse_curOp (r : Reading) (s : State) : (writeResponse r s).curOp = s.curOp := rfl
@[simp] theorem writeResponse_calStage (r : Reading) (s : State) : (writeResponse r s).calStage = s.calStage := rfl
@[simp] theorem writeResponse_utL (r : Reading) (s : State) : (writeResponse r s).utL = s.utL := rfl
@[simp] theorem writeResponse_upL (r : Reading) (s : State) : (writeResponse r s).upL = s.upL := rfl
@[simp] theorem writeResponse_err (r : Reading) (s : State) : (writeResponse r s).err = s.err := rfl
@[simp] theorem writeResponse_errInfo (r : Reading) (s : State) : (writeResponse r s).errInfo = s.errInfo := rfl
@[simp] theorem writeResponse_xferCode (r : Reading) (s : State) : (writeResponse r s).xferCode = s.xferCode := rfl
@[simp] theorem writeResponse_rspValid (r : Reading) (s : State) : (writeResponse r s).rspValid = s.rspValid := rfl
@[simp] theorem writeResponse_rspT10 (r : Reading) (s : State) : (writeResponse r s).rspT10 = r.t10 := rfl
@[simp] theorem writeResponse_rspTemp (r : Reading) (s : State) : (writeResponse r s).rspTemp = r.tempC := rfl
@[simp] theorem writeResponse_rspPress (r : Reading) (s : State) : (writeResponse r s).rspPress = r.press := rfl
@[simp] theorem writeResponse_rspAlt (r : Reading) (s : State) : (writeResponse r s).rspAlt = r.alt := rfl
@[simp] theorem writeResponse_policy (r : Reading) (s : State) : (writeResponse r s).policy = s.policy := rfl
@[simp] theorem writeResponse_timer (r : Reading) (s : State) : (writeResponse r s).timer = s.timer := rfl
@[simp] theorem writeResponse_issued (r : Reading) (s : State) : (writeResponse r s).issued = s.issued := rfl
@[simp] theorem writeResponse_host (r : Reading) (s : State) : (writeResponse r s).host = s.host := rfl
@[simp] theorem writeResponse_hostSeen (r : Reading) (s : State) : (writeResponse r s).hostSeen = s.hostSeen := rfl
@[simp] theorem writeResponse_bus (r : Reading) (s : State) : (writeResponse r s).bus = s.bus := rfl
@[simp] theorem writeResponse_busSilent (r : Reading) (s : State) : (writeResponse r s).busSilent = s.busSilent := rfl
@[simp] theorem writeResponse_schedule (r : Reading) (s : State) : (writeResponse r s).schedule = s.schedule := rfl
@[simp] theorem writeResponse_afterSchedule (r : Reading) (s : State) : (writeResponse r s).afterSchedule = s.afterSchedule := rfl

@[simp] theorem popHost_cal (s : State) : (popHost s).cal = s.cal := rfl
@[simp] theorem popHost_mode (s : State) : (popHost s).mode = s.mode := rfl
@[simp] theorem popHost_devAddr (s : State) : (popHost s).devAddr = s.devAddr := rfl
@[simp] theorem popHost_initDone (s : State) : (popHost s).initDone = s.initDone := rfl
@[simp] theorem popHost_busy (s : State) : (popHost s).busy = s.busy := rfl
@[simp] theorem popHost_phase (s : State) : (popHost s).phase = s.phase := rfl
@[simp] theorem popHost_curOp (s : State) : (popHost s).curOp = s.curOp := rfl
@[simp] theorem popHost_calStage (s : State) : (popHost s).calStage = s.calStage := rfl
@[simp] theorem popHost_utL (s : State) : (popHost s).utL = s.utL := rfl
@[simp] theorem popHost_upL (s : State) : (popHost s).upL = s.upL := rfl
@[simp] theorem popHost_err (s : State) : (popHost s).err = s.err := rfl
@[simp] theorem popHost_errInfo (s : State) : (popHost s).errInfo = s.errInfo := rfl
@[simp] theorem popHost_xferCode (s : State) : (popHost s).xferCode = s.xferCode := rfl
@[simp] theorem popHost_rspValid (s : State) : (popHost s).rspValid = s.rspValid := rfl
@[simp] theorem popHost_rspT10 (s : State) : (popHost s).rspT10 = s.rspT10 := rfl
@[simp] theorem popHost_rspTemp (s : State) : (popHost s).rspTemp = s.rspTemp := rfl
@[simp] theorem popHost_rspPress (s : State) : (popHost s).rspPress = s.rspPress := rfl
@[simp] theorem popHost_rspAlt (s : State) : (popHost s).rspAlt = s.rspAlt := rfl
@[simp] theorem popHost_policy (s : State) : (popHost s).policy = s.policy := rfl
@[simp] theorem popHost_timer (s : State) : (popHost s).timer = s.timer := rfl
@[simp] theorem popHost_issued (s : State) : (popHost s).issued = s.issued := rfl
@[simp] theorem popHost_host (s : State) : (popHost s).host = s.host.tail := rfl
@[simp] theorem popHost_hostSeen (s : State) : (popHost s).hostSeen = s.hostSeen := rfl
@[simp] theorem popHost_bus (s : State) : (popHost s).bus = s.bus := rfl
@[simp] theorem popHost_busSilent (s : State) : (popHost s).busSilent = s.busSilent := rfl
@[simp] theorem popHost_schedule (s : State) : (popHost s).schedule = s.schedule := rfl
@[simp] theorem popHost_afterSchedule (s : State) : (popHost s).afterSchedule = s.afterSchedule := rfl

@[simp] theorem popSchedule_cal (s : State) : (popSchedule s).cal = s.cal := rfl
@[simp] theorem popSchedule_mode (s : State) : (popSchedule s).mode = s.mode := rfl
@[simp] theorem popSchedule_devAddr (s : State) : (popSchedule s).devAddr = s.devAddr := rfl
@[simp] theorem popSchedule_initDone (s : State) : (popSchedule s).initDone = s.initDone := rfl
@[simp] theorem popSchedule_busy (s : State) : (popSchedule s).busy = s.busy := rfl
@[simp] theorem popSchedule_phase (s : State) : (popSchedule s).phase = s.phase := rfl
@[simp] theorem popSchedule_curOp (s : State) : (popSchedule s).curOp = s.curOp := rfl
@[simp] theorem popSchedule_calStage (s : State) : (popSchedule s).calStage = s.calStage := rfl
@[simp] theorem popSchedule_utL (s : State) : (popSchedule s).utL = s.utL := rfl
@[simp] theorem popSchedule_upL (s : State) : (popSchedule s).upL = s.upL := rfl
@[simp] theorem popSchedule_err (s : State) : (popSchedule s).err = s.err := rfl
@[simp] theorem popSchedule_errInfo (s : State) : (popSchedule s).errInfo = s.errInfo := rfl
@[simp] theorem popSchedule_xferCode (s : State) : (popSchedule s).xferCode = s.xferCode := rfl
@[simp] theorem popSchedule_rspValid (s : State) : (popSchedule s).rspValid = s.rspValid := rfl
@[simp] theorem popSchedule_rspT10 (s : State) : (popSchedule s).rspT10 = s.rspT10 := rfl
@[simp] theorem popSchedule_rspTemp (s : State) : (popSchedule s).rspTemp = s.rspTemp := rfl
@[simp] theorem popSchedule_rspPress (s : State) : (popSchedule s).rspPress = s.rspPress := rfl
@[simp] theorem popSchedule_rspAlt (s : State) : (popSchedule s).rspAlt = s.rspAlt := rfl
@[simp] theorem popSchedule_policy (s : State) : (popSchedule s).policy = s.policy := rfl
@[simp] theorem popSchedule_timer (s : State) : (popSchedule s).timer = s.timer := rfl
@[simp] theorem popSchedule_issued (s : State) : (popSchedule s).issued = s.issued := rfl
@[simp] theorem popSchedule_host (s : State) : (popSchedule s).host = s.host := rfl
@[simp] theorem popSchedule_hostSeen (s : State) : (popSchedule s).hostSeen = s.hostSeen := rfl
@[simp] theorem popSchedule_bus (s : State) : (popSchedule s).bus = s.bus := rfl
@[simp] theorem popSchedule_busSilent (s : State) : (popSchedule s).busSilent = s.busSilent := rfl
@[simp] theorem popSchedule_schedule (s : State) : (popSchedule s).schedule = s.schedule.tail := rfl
@[simp] theorem popSchedule_afterSchedule (s : State) : (popSchedule s).afterSchedule = s.afterSchedule := rfl

@[simp] theorem seen_cal (i : HostIndex) (v : Word64) (s : State) : (seen i v s).cal = s.cal := rfl
@[simp] theorem seen_mode (i : HostIndex) (v : Word64) (s : State) : (seen i v s).mode = s.mode := rfl
@[simp] theorem seen_devAddr (i : HostIndex) (v : Word64) (s : State) : (seen i v s).devAddr = s.devAddr := rfl
@[simp] theorem seen_initDone (i : HostIndex) (v : Word64) (s : State) : (seen i v s).initDone = s.initDone := rfl
@[simp] theorem seen_busy (i : HostIndex) (v : Word64) (s : State) : (seen i v s).busy = s.busy := rfl
@[simp] theorem seen_phase (i : HostIndex) (v : Word64) (s : State) : (seen i v s).phase = s.phase := rfl
@[simp] theorem seen_curOp (i : HostIndex) (v : Word64) (s : State) : (seen i v s).curOp = s.curOp := rfl
@[simp] theorem seen_calStage (i : HostIndex) (v : Word64) (s : State) : (seen i v s).calStage = s.calStage := rfl
@[simp] theorem seen_utL (i : HostIndex) (v : Word64) (s : State) : (seen i v s).utL = s.utL := rfl
@[simp] theorem seen_upL (i : HostIndex) (v : Word64) (s : State) : (seen i v s).upL = s.upL := rfl
@[simp] theorem seen_err (i : HostIndex) (v : Word64) (s : State) : (seen i v s).err = s.err := rfl
@[simp] theorem seen_errInfo (i : HostIndex) (v : Word64) (s : State) : (seen i v s).errInfo = s.errInfo := rfl
@[simp] theorem seen_xferCode (i : HostIndex) (v : Word64) (s : State) : (seen i v s).xferCode = s.xferCode := rfl
@[simp] theorem seen_rspValid (i : HostIndex) (v : Word64) (s : State) : (seen i v s).rspValid = s.rspValid := rfl
@[simp] theorem seen_rspT10 (i : HostIndex) (v : Word64) (s : State) : (seen i v s).rspT10 = s.rspT10 := rfl
@[simp] theorem seen_rspTemp (i : HostIndex) (v : Word64) (s : State) : (seen i v s).rspTemp = s.rspTemp := rfl
@[simp] theorem seen_rspPress (i : HostIndex) (v : Word64) (s : State) : (seen i v s).rspPress = s.rspPress := rfl
@[simp] theorem seen_rspAlt (i : HostIndex) (v : Word64) (s : State) : (seen i v s).rspAlt = s.rspAlt := rfl
@[simp] theorem seen_policy (i : HostIndex) (v : Word64) (s : State) : (seen i v s).policy = s.policy := rfl
@[simp] theorem seen_timer (i : HostIndex) (v : Word64) (s : State) : (seen i v s).timer = s.timer := rfl
@[simp] theorem seen_issued (i : HostIndex) (v : Word64) (s : State) : (seen i v s).issued = s.issued := rfl
@[simp] theorem seen_host (i : HostIndex) (v : Word64) (s : State) : (seen i v s).host = s.host := rfl
@[simp] theorem seen_hostSeen (i : HostIndex) (v : Word64) (s : State) : (seen i v s).hostSeen = (i, v) :: s.hostSeen := rfl
@[simp] theorem seen_bus (i : HostIndex) (v : Word64) (s : State) : (seen i v s).bus = s.bus := rfl
@[simp] theorem seen_busSilent (i : HostIndex) (v : Word64) (s : State) : (seen i v s).busSilent = s.busSilent := rfl
@[simp] theorem seen_schedule (i : HostIndex) (v : Word64) (s : State) : (seen i v s).schedule = s.schedule := rfl
@[simp] theorem seen_afterSchedule (i : HostIndex) (v : Word64) (s : State) : (seen i v s).afterSchedule = s.afterSchedule := rfl

@[simp] theorem resetBlock_cal (s : State) : (resetBlock s).cal = State.reset.cal := rfl
@[simp] theorem resetBlock_mode (s : State) : (resetBlock s).mode = State.reset.mode := rfl
@[simp] theorem resetBlock_devAddr (s : State) : (resetBlock s).devAddr = State.reset.devAddr := rfl
@[simp] theorem resetBlock_initDone (s : State) : (resetBlock s).initDone = State.reset.initDone := rfl
@[simp] theorem resetBlock_busy (s : State) : (resetBlock s).busy = State.reset.busy := rfl
@[simp] theorem resetBlock_phase (s : State) : (resetBlock s).phase = State.reset.phase := rfl
@[simp] theorem resetBlock_curOp (s : State) : (resetBlock s).curOp = State.reset.curOp := rfl
@[simp] theorem resetBlock_calStage (s : State) : (resetBlock s).calStage = State.reset.calStage := rfl
@[simp] theorem resetBlock_utL (s : State) : (resetBlock s).utL = State.reset.utL := rfl
@[simp] theorem resetBlock_upL (s : State) : (resetBlock s).upL = State.reset.upL := rfl
@[simp] theorem resetBlock_err (s : State) : (resetBlock s).err = State.reset.err := rfl
@[simp] theorem resetBlock_errInfo (s : State) : (resetBlock s).errInfo = State.reset.errInfo := rfl
@[simp] theorem resetBlock_xferCode (s : State) : (resetBlock s).xferCode = State.reset.xferCode := rfl
@[simp] theorem resetBlock_rspValid (s : State) : (resetBlock s).rspValid = State.reset.rspValid := rfl
@[simp] theorem resetBlock_rspT10 (s : State) : (resetBlock s).rspT10 = State.reset.rspT10 := rfl
@[simp] theorem resetBlock_rspTemp (s : State) : (resetBlock s).rspTemp = State.reset.rspTemp := rfl
@[simp] theorem resetBlock_rspPress (s : State) : (resetBlock s).rspPress = State.reset.rspPress := rfl
@[simp] theorem resetBlock_rspAlt (s : State) : (resetBlock s).rspAlt = State.reset.rspAlt := rfl
@[simp] theorem resetBlock_policy (s : State) : (resetBlock s).policy = s.policy := rfl
@[simp] theorem resetBlock_timer (s : State) : (resetBlock s).timer = State.reset.timer := rfl
@[simp] theorem resetBlock_issued (s : State) : (resetBlock s).issued = s.issued := rfl
@[simp] theorem resetBlock_host (s : State) : (resetBlock s).host = s.host := rfl
@[simp] theorem resetBlock_hostSeen (s : State) : (resetBlock s).hostSeen = s.hostSeen := rfl
@[simp] theorem resetBlock_bus (s : State) : (resetBlock s).bus = s.bus := rfl
@[simp] theorem resetBlock_busSilent (s : State) : (resetBlock s).busSilent = s.busSilent := rfl
@[simp] theorem resetBlock_schedule (s : State) : (resetBlock s).schedule = s.schedule := rfl
@[simp] theorem resetBlock_afterSchedule (s : State) : (resetBlock s).afterSchedule = s.afterSchedule := rfl

end Sys2Proof.Machine
end

