-- ==== Sys2Proof/Laws/Ops.lean ====
section
/-! SUPPORT. What each shared operation and each phase does, said once per outcome of the collaborator or of the pipeline. -/

namespace Sys2Proof.Machine

@[simp] theorem busAnswer_cons {s : State} {a : BusAnswer} {rest : List BusAnswer} (t : Transaction)
    (h : s.bus = a :: rest) : busAnswer t s = some a := by
  simp [busAnswer, h]

theorem busAnswer_silent {s : State} (t : Transaction) (h : s.bus = []) (hs : s.busSilent = true) :
    busAnswer t s = none := by
  simp [busAnswer, h, hs]

/-- There is an answer unless the collaborator has fallen silent. -/
theorem busAnswer_isSome {s : State} (t : Transaction) (h : s.busSilent = false) :
    ∃ a, busAnswer t s = some a := by
  unfold busAnswer
  split
  · exact ⟨_, rfl⟩
  · exact ⟨_, by rw [h]; rfl⟩

theorem busWriteOr_none {info dev reg value : Byte} {next : State → State} {s : State}
    (h : busAnswer (.busWrite dev reg value) s = none) : busWriteOr info dev reg value next s = s := by
  simp [busWriteOr, h]

theorem busWriteOr_ok {info dev reg value d0 d1 d2 : Byte} {next : State → State} {s : State}
    (h : busAnswer (.busWrite dev reg value) s = some (.ok d0 d1 d2)) :
    busWriteOr info dev reg value next s = next (busIssue (.busWrite dev reg value) s) := by
  simp [busWriteOr, h]

theorem busWriteOr_error {info dev reg value : Byte} {code : Word64} {next : State → State} {s : State}
    (h : busAnswer (.busWrite dev reg value) s = some (.error code)) :
    busWriteOr info dev reg value next s = raise (.transport info code) (busIssue (.busWrite dev reg value) s) := by
  simp [busWriteOr, h]

theorem busReadOr_none {info dev reg : Byte} {n : Nat} {next : Byte → Byte → Byte → State → State} {s : State}
    (h : busAnswer (.busRead dev reg n) s = none) : busReadOr info dev reg n next s = s := by
  simp [busReadOr, h]

theorem busReadOr_ok {info dev reg d0 d1 d2 : Byte} {n : Nat} {next : Byte → Byte → Byte → State → State}
    {s : State} (h : busAnswer (.busRead dev reg n) s = some (.ok d0 d1 d2)) :
    busReadOr info dev reg n next s = next d0 d1 d2 (busIssue (.busRead dev reg n) s) := by
  simp [busReadOr, h]

theorem busReadOr_error {info dev reg : Byte} {n : Nat} {code : Word64}
    {next : Byte → Byte → Byte → State → State} {s : State}
    (h : busAnswer (.busRead dev reg n) s = some (.error code)) :
    busReadOr info dev reg n next s = raise (.transport info code) (busIssue (.busRead dev reg n) s) := by
  simp [busReadOr, h]

theorem calRd_none {i : Fin 11} {s : State} (h : busAnswer (.busRead s.curOp.dev (calAddr i) 2) s = none) :
    calRd i s = s := by
  simp [calRd, h]

theorem calRd_ok {i : Fin 11} {s : State} {d0 d1 d2 : Byte}
    (h : busAnswer (.busRead s.curOp.dev (calAddr i) 2) s = some (.ok d0 d1 d2)) :
    calRd i s = stageCal i (calPair d0 d1) (busIssue (.busRead s.curOp.dev (calAddr i) 2) s) := by
  simp [calRd, h]

theorem calRd_error_failFast {i : Fin 11} {s : State} {code : Word64}
    (h : busAnswer (.busRead s.curOp.dev (calAddr i) 2) s = some (.error code)) (hp : s.policy = .failFast) :
    calRd i s = raise (.transport (calAddr i) code) (busIssue (.busRead s.curOp.dev (calAddr i) 2) s) := by
  simp [calRd, h, hp]

theorem calRd_error_zeroFill {i : Fin 11} {s : State} {code : Word64}
    (h : busAnswer (.busRead s.curOp.dev (calAddr i) 2) s = some (.error code)) (hp : s.policy = .referenceZeroFill) :
    calRd i s = stageCal i 0 (busIssue (.busRead s.curOp.dev (calAddr i) 2) s) := by
  simp [calRd, h, hp]

theorem waitFor_first {w : WaitKind} {s : State} (h : s.timer = none) : waitFor w s = requestWait w s := by
  simp [waitFor, h]

theorem waitFor_again {w v : WaitKind} {s : State} (h : s.timer = some v) : waitFor w s = s := by
  simp [waitFor, h]

theorem timerSignal_none {s : State} (h : s.timer = none) : timerSignal s = s := by
  simp [timerSignal, h]

theorem timerSignal_some {s : State} {w : WaitKind} (h : s.timer = some w) :
    timerSignal s = { s with timer := none, phase := afterWait s.phase } := by
  simp [timerSignal, h]

theorem compute_ok {s : State} {r : Reading} (h : pipe s.cal s.utL s.upL (computeMode s) = .ok r) :
    compute s = completeOk (writeResponse r s) := by
  unfold compute
  rw [h]

theorem compute_error {s : State} {info : Byte}
    (h : pipe s.cal s.utL s.upL (computeMode s) = .arithmeticError info) :
    compute s = raise (.arithmetic info) s := by
  unfold compute
  rw [h]

theorem whenIdle_busy {accept : State → State} {s : State} (h : s.busy = true) : whenIdle accept s = .next s := by
  simp [whenIdle, h]

theorem whenIdle_idle {accept : State → State} {s : State} (h : s.busy = false) :
    whenIdle accept s = .next (accept s) := by
  simp [whenIdle, h]

/-- Every instruction answers a next state, in every state. -/
theorem exec_next (i : Instr) (s : State) : ∃ t, exec i s = .next t := by
  cases i <;> exact ⟨_, rfl⟩

end Sys2Proof.Machine
end

