-- ==== Sys2Proof/Laws/PerInstr.lean ====
section
/-! SUPPORT. What holds of every instruction as syntax, made per constructor. Family `TableRow`: the instruction is well formed,
and its encoding lies in its row of spec/opcode_table.json: the right format, and the row's match under the row's mask. -/

namespace Sys2Proof.Laws.TableRow

/-- A host command word in the row with this match and mask. -/
def HostRow (c : CommandWord) (pattern mask : Word64) : Prop := ∃ w, c = .host w ∧ w &&& mask = pattern

/-- A sensor command byte in the row with this match and mask. -/
def SensorRow (c : CommandWord) (pattern mask : Byte) : Prop := ∃ b, c = .sensor b ∧ b &&& mask = pattern

/-- The rows of spec/opcode_table.json, by mnemonic. -/
def Statement (i : Instr) : Prop :=
  i.wellFormed = true ∧
  match i with
  | .init _ _ => HostRow (encode i) 0x1000000000000000 0xFFFFFFFFFFFF0000
  | .readc => HostRow (encode i) 0x2000000000000000 0xFFFFFFFFFFFFFFFF
  | .gett => HostRow (encode i) 0x3000000000000000 0xFFFFFFFFFFFFFFFF
  | .getp => HostRow (encode i) 0x4000000000000000 0xFFFFFFFFFFFFFFFF
  | .geta => HostRow (encode i) 0x5000000000000000 0xFFFFFFFFFFFFFFFF
  | .comp _ _ _ => HostRow (encode i) 0x6000000000000000 0xFFFF000000000000
  | .readTemp => SensorRow (encode i) 0x2E 0xFF
  | .readPressure _ => SensorRow (encode i) 0x34 0x3F

theorem init (dev modeReq : Byte) : Statement (.init dev modeReq) := by
  refine ⟨by simp [Instr.wellFormed, dev.isLt, modeReq.isLt], _, rfl, ?_⟩
  ext n hn
  interval_cases n <;> simp

theorem readc : Statement .readc := ⟨rfl, _, rfl, by decide⟩

theorem gett : Statement .gett := ⟨rfl, _, rfl, by decide⟩

theorem getp : Statement .getp := ⟨rfl, _, rfl, by decide⟩

theorem geta : Statement .geta := ⟨rfl, _, rfl, by decide⟩

theorem comp (ut : Half) (up : Triple) (modeReq : Byte) : Statement (.comp ut up modeReq) := by
  refine ⟨by simp [Instr.wellFormed, ut.isLt, up.isLt, modeReq.isLt], _, rfl, ?_⟩
  ext n hn
  interval_cases n <;> simp

theorem readTemp : Statement .readTemp := ⟨rfl, _, rfl, by decide⟩

theorem readPressure (oss : BitVec 2) : Statement (.readPressure oss) := by
  refine ⟨by simp [Instr.wellFormed, oss.isLt], _, rfl, ?_⟩
  revert oss
  decide

end Sys2Proof.Laws.TableRow
end

