-- ==== Sys2Proof/Laws/Step.lean ====
section
/-! SUPPORT. Everything one step can do, said once: the block's move by its phase, the host's by its next access, and the step
as one of them. -/

namespace Sys2Proof.Machine

theorem decodeScmd_readTemp : decodeScmd 46#8 = .instr .readTemp := by decide

theorem decodeScmd_readPressureByte (m : BitVec 2) :
    decodeScmd (readPressureByte m) = .instr (.readPressure m) := by
  revert m; decide

theorem decodeHcmd_ne_sensor (w : Word64) :
    decodeHcmd w ≠ .instr .readTemp ∧ ∀ m, decodeHcmd w ≠ .instr (.readPressure m) := by
  simp only [decodeHcmd]
  split_ifs <;> simp

theorem nextAgent_scheduled {s : State} {a : Agent} {rest : List Agent} (h : s.schedule = a :: rest) :
    nextAgent s = a := by
  simp [nextAgent, h]

theorem nextAgent_after {s : State} {a : Agent} (h : s.schedule = []) (ha : s.afterSchedule = some a) :
    nextAgent s = a := by
  simp [nextAgent, h, ha]

theorem nextAgent_fair {s : State} (h : s.schedule = []) (ha : s.afterSchedule = none) :
    nextAgent s = fairAgent s := by
  simp [nextAgent, h, ha]

/-- With nothing left of the schedule a step uses none of it up. -/
theorem popSchedule_nil {s : State} (h : s.schedule = []) : popSchedule s = s := by
  cases s
  simp_all [popSchedule]

/-- The block's move: the phase it is in. -/
def blockMove (s : State) : State :=
  match s.phase with
  | .idle => s
  | .calRd i => calRd i s
  | .calCommit => calCommit s
  | .tCmd => tCmd s
  | .tWait => tWait s
  | .tRd => tRd s
  | .pCmd => pCmd s.mode s
  | .pWait => pWait s
  | .pRd => pRd s
  | .compute => compute s

theorem blockStep_eq (s : State) : blockStep s = .next (blockMove s) := by
  cases h : s.phase <;>
    simp [blockStep, blockMove, commandByte, h, decodeScmd_readTemp, decodeScmd_readPressureByte, exec,
      execReadTemp, execReadPressure]

/-- What the acceptance of a decoded host command makes of an idle block. -/
def acceptMove (d : HostDecoded) (s : State) : State :=
  match d with
  | .instr (.init dev m) => acceptInit dev m s
  | .instr .readc => acceptReading .readc s
  | .instr .gett => acceptReading .gett s
  | .instr .getp => acceptReading .getp s
  | .instr .geta => acceptReading .geta s
  | .instr (.comp ut up m) => acceptComp ut up m s
  | .instr .readTemp => s
  | .instr (.readPressure _) => s
  | .illegal op => acceptIllegal op s

theorem hostCommandStep_busy {w : Word64} {s : State} (h : s.busy = true) : hostCommandStep w s = .next s := by
  simp [hostCommandStep, h]

theorem hostCommandStep_idle {w : Word64} {s : State} (h : s.busy = false) :
    hostCommandStep w s = .next (acceptMove (decodeHcmd w) (popHost s)) := by
  have hn := decodeHcmd_ne_sensor w
  cases hd : decodeHcmd w with
  | illegal op => simp [hostCommandStep, h, hd, acceptMove]
  | instr i =>
    cases i <;>
      simp_all [hostCommandStep, acceptMove, exec, execInit, execReadc, execGett, execGetp, execGeta, execComp,
        whenIdle]

/-- Every next state of the host's move. -/
theorem hostStep_cases {s t : State} (h : hostStep s = .next t) :
    (s.host = [] ∧ t = s) ∨
    (∃ w rest, s.host = .write 0 w :: rest ∧ s.busy = true ∧ t = s) ∨
    (∃ w rest, s.host = .write 0 w :: rest ∧ s.busy = false ∧ t = acceptMove (decodeHcmd w) (popHost s)) ∨
    (∃ i w rest, s.host = .write i w :: rest ∧ i ≠ 0 ∧ t = popHost s) ∨
    (∃ i v rest, s.host = .read i :: rest ∧ readReg i s = .value v ∧ t = seen i v (popHost s)) ∨
    (∃ rest, s.host = .waitIdle :: rest ∧
      t = seen (regIndex .status) (statusWord s) (if s.busy then s else popHost s)) := by
  unfold hostStep at h
  split at h
  · next he => exact .inl ⟨he, by simpa using h.symm⟩
  · next i w rest he =>
    split at h
    · next hi =>
      have hi : i = 0 := hi
      subst hi
      cases hb : s.busy with
      | true =>
        rw [hostCommandStep_busy hb] at h
        exact .inr (.inl ⟨w, rest, he, rfl, by simpa using h.symm⟩)
      | false =>
        rw [hostCommandStep_idle hb] at h
        exact .inr (.inr (.inl ⟨w, rest, he, rfl, by simpa using h.symm⟩))
    · next hi =>
      unfold hostOtherWriteStep at h
      split at h
      · simp at h
      · exact .inr (.inr (.inr (.inl ⟨i, w, rest, he, hi, by simpa using h.symm⟩)))
  · next i rest he =>
    unfold hostReadStep at h
    split at h
    · next v hv => exact .inr (.inr (.inr (.inr (.inl ⟨i, v, rest, he, hv, by simpa using h.symm⟩))))
    · simp at h
    · simp at h
  · next rest he =>
    unfold hostPollStep at h
    exact .inr (.inr (.inr (.inr (.inr ⟨rest, he, by simpa using h.symm⟩))))

/-- Every next state of a step. -/
theorem step_cases {s t : State} (h : step s = .next t) :
    (nextAgent s = .host ∧ hostStep (popSchedule s) = .next t) ∨
    (nextAgent s = .block ∧ t = blockMove (popSchedule s)) ∨
    (nextAgent s = .timer ∧ t = timerSignal (popSchedule s)) ∨
    (nextAgent s = .reset ∧ t = resetBlock (popSchedule s)) := by
  unfold step runAgent at h
  split at h
  · next ha => exact .inl ⟨ha, h⟩
  · next ha =>
    rw [blockStep_eq] at h
    exact .inr (.inl ⟨ha, by simpa using h.symm⟩)
  · next ha => exact .inr (.inr (.inl ⟨ha, by simpa using h.symm⟩))
  · next ha => exact .inr (.inr (.inr ⟨ha, by simpa using h.symm⟩))

/-- The block's turn. -/
theorem step_block {s : State} (h : nextAgent s = .block) : step s = .next (blockMove (popSchedule s)) := by
  rw [step, h]
  exact blockStep_eq _

/-- The timer's turn. -/
theorem step_timer {s : State} (h : nextAgent s = .timer) : step s = .next (timerSignal (popSchedule s)) := by
  rw [step, h]
  rfl

/-- The reset input's turn. -/
theorem step_reset {s : State} (h : nextAgent s = .reset) : step s = .next (resetBlock (popSchedule s)) := by
  rw [step, h]
  rfl

/-- A command an idle block accepts. -/
theorem step_accept {s : State} {w : Word64} {rest : List HostAccess} (h : nextAgent s = .host)
    (hw : s.host = .write 0 w :: rest) (hb : s.busy = false) :
    step s = .next (acceptMove (decodeHcmd w) (popHost (popSchedule s))) := by
  have hp : (popSchedule s).host = .write 0 w :: rest := hw
  rw [step, h, runAgent, hostStep, hp]
  exact hostCommandStep_idle hb

end Sys2Proof.Machine
end

