-- ==== Sys2Proof/Tests/Slice0.lean ====
section
/-! SUPPORT. The model's own tests. Expected values are those of spec/95_test_vectors.md (the part is named with each test) or
are written out by hand from the encoding rules. Then, for each statement of Obligations.lean that has hypotheses, a witness that
meets them all. -/

namespace Sys2Proof.Tests

open Sys2Proof.Machine

-- One evaluation at a time: many at once reserve more memory than the build has.
set_option Elab.async false

/-! Ill-formed terms, one for each check (R107, R108). -/

theorem test_wf_init_dev_too_wide : (Statement.init 256 0).wellFormed = false := by decide

theorem test_wf_init_mode_too_wide : (Statement.init 0 256).wellFormed = false := by decide

theorem test_wf_comp_ut_too_wide : (Statement.comp 65536 0 0).wellFormed = false := by decide

theorem test_wf_comp_up_too_wide : (Statement.comp 0 16777216 0).wellFormed = false := by decide

theorem test_wf_comp_mode_too_wide : (Statement.comp 0 0 256).wellFormed = false := by decide

theorem test_wf_cmd_too_wide : (Statement.cmd (2 ^ 64)).wellFormed = false := by decide

theorem test_wf_run_of_a_read : (Statement.run (.rd .status)).wellFormed = false := by decide

theorem test_wf_run_of_a_wait : (Statement.run .wait).wellFormed = false := by decide

theorem test_wf_run_of_a_run : (Statement.run (.run .readc)).wellFormed = false := by decide

theorem test_wf_run_of_an_ill_formed_command : (Statement.run (.init 256 0)).wellFormed = false := by decide

theorem test_wf_widest_operands :
    (Statement.init 255 255).wellFormed = true ∧ (Statement.comp 65535 16777215 255).wellFormed = true
      ∧ (Statement.cmd (2 ^ 64 - 1)).wellFormed = true := by decide

/-! Decoding, on words written out from the encoding lines of R93, R94, R95, R100 and R101. -/

/-- OP 0001, 44 reserved zeros, DEV 01110111, MODE_REQ 00000011. -/
theorem test_decode_init :
    decodeTableWord 64 (0b0001 * 2 ^ 60 + 0b01110111 * 2 ^ 8 + 0b00000011) = some (.init 0x77 3) := by decide

theorem test_decode_readc : decodeTableWord 64 (0b0010 * 2 ^ 60) = some .readc := by decide

theorem test_decode_gett : decodeTableWord 64 (0b0011 * 2 ^ 60) = some .gett := by decide

theorem test_decode_getp : decodeTableWord 64 (0b0100 * 2 ^ 60) = some .getp := by decide

theorem test_decode_geta : decodeTableWord 64 (0b0101 * 2 ^ 60) = some .geta := by decide

/-- L2-D: COMP ut 27898, up 190744, mode_req 3. -/
theorem test_decode_comp : decodeTableWord 64 0x60006CFA02E91803 = some (.comp 27898 190744 3) := by decide

theorem test_decode_readTemp : decodeTableWord 8 0b00101110 = some .readTemp := by decide

/-- L2-S, mode 2: bits 7:6 are 10, bits 5:0 are 110100. -/
theorem test_decode_readPressure : decodeTableWord 8 0b10110100 = some (.readPressure 2) := by decide

/-- L2-D: the rejected words, with the ERR_INFO each gives. -/
theorem test_decode_illegal_words :
    decodeHcmd 0x1000000000017700 = .illegal 1 ∧ decodeHcmd 0x2000000000000001 = .illegal 2
      ∧ decodeHcmd 0x60016CFA005D2300 = .illegal 6 ∧ decodeHcmd 0 = .illegal 0
      ∧ decodeHcmd 0x7000000000007704 = .illegal 7 ∧ decodeHcmd 0xF000000000000000 = .illegal 15 := by decide

/-- R102: neighbours of the five command bytes. -/
theorem test_decode_rejected_bytes :
    decodeScmd 0x6E = .notACommand 0x6E ∧ decodeScmd 0x35 = .notACommand 0x35
      ∧ decodeScmd 0x00 = .notACommand 0x00 := by decide

/-! Small states. -/

/-- L2-K: the fixture constants. -/
def fixture : CalFile :=
  #v[0x0198, 0xFFB8, 0xC7D1, 0x7FE5, 0x7FF5, 0x5A71, 0x182E, 0x0004, 0x8000, 0xDDF9, 0x0B34]

/-- The fixture with MD = -4743: the temperature divisor is 0 at UT = 27898 (L2-E). -/
def fixtureMD : CalFile := fixture.set 10 0xED79

/-- The fixture with AC4 = 0: the pressure divisor is 0 (L2-E). -/
def fixtureAC4 : CalFile := fixture.set 3 0

/-- An idle block with the fixture session of L3-1. -/
def session : State := { State.reset with cal := fixture, devAddr := 0x77, initDone := true }

/-- This operation is in progress, in this phase. -/
def busyIn (op : HostOp) (p : Phase) (s : State) : State :=
  { s with busy := true, phase := p, curOp := { s.curOp with op := op } }

/-- An INIT of device 0x77 at mode 2 is in progress, in this phase. -/
def initIn (p : Phase) : State :=
  { State.reset with
    busy := true, phase := p, curOp := { State.reset.curOp with op := .init, dev := 0x77, modeReq := 2 } }

/-- COMPUTE of a COMP is next, on this raw sample at this mode. -/
def computing (cal : CalFile) (ut : Half) (up : Triple) (m : Byte) : State :=
  { session with
    cal := cal, busy := true, phase := .compute, utL := ut, upL := up
    curOp := { op := .comp, dev := 0, modeReq := m, ut := ut, up := up } }

/-- The host's next access, and its turn. -/
def hostDoes (a : HostAccess) (s : State) : State := { s with host := [a], schedule := [.host] }

/-- A next state with this property. -/
def nextHas (o : Host.Outcome State Fault Refusal) (p : State → Bool) : Bool :=
  match o with
  | .next t => p t
  | .fault _ => false
  | .refused _ => false

/-! One step each. -/

/-- L2-H: STATUS after the acceptance of INIT from reset. -/
theorem test_init_accepted :
    nextHas (step (State.reset.withFetchWord 64 0x1000000000007700))
      (fun t => statusWord t == 0x0000000001000001 && t.curOp.dev == 0x77) = true := by decide

/-- L2-H: INIT with mode_req 4 inside a session. -/
theorem test_init_illegal_mode :
    nextHas (step (session.withFetchWord 64 0x1000000000007704))
      (fun t => statusWord t == 0x0000000000040302 && t.devAddr == 0x77) = true := by decide

/-- L2-H: READC without a session. -/
theorem test_readc_without_session :
    nextHas (step (State.reset.withFetchWord 64 0x2000000000000000))
      (fun t => statusWord t == 0x0000000000FF0200 && t.issued == []) = true := by decide

/-- R224: READC inside a session starts at T_CMD (0x10). -/
theorem test_readc_accepted :
    nextHas (step (session.withFetchWord 64 0x2000000000000000))
      (fun t => statusWord t == 0x0000000010000003) = true := by decide

theorem test_gett_accepted :
    nextHas (step (session.withFetchWord 64 0x3000000000000000))
      (fun t => statusWord t == 0x0000000010000003 && t.curOp.op == .gett) = true := by decide

theorem test_getp_accepted :
    nextHas (step (session.withFetchWord 64 0x4000000000000000))
      (fun t => statusWord t == 0x0000000010000003 && t.curOp.op == .getp) = true := by decide

theorem test_geta_accepted :
    nextHas (step (session.withFetchWord 64 0x5000000000000000))
      (fun t => statusWord t == 0x0000000010000003 && t.curOp.op == .geta) = true := by decide

/-- L2-D: COMP, accepted without a session, with PHASE = 0x18. -/
theorem test_comp_accepted :
    nextHas (step (State.reset.withFetchWord 64 0x60006CFA02E91803))
      (fun t => statusWord t == 0x0000000018000001 && t.upL == 190744) = true := by decide

/-- L2-P1: the fixture through COMPUTE. -/
theorem test_comp_fixture :
    nextHas (step (computing fixture 27898 23843 0))
      (fun t => statusWord t == 0x0000000000000072 && t.rspT10 == 150 && t.rspTemp == 0x402e000000000000
        && t.rspPress == 69964) = true := by decide +kernel

/-- L2-E: an error of the pipeline writes no response. -/
theorem test_comp_pressure_divisor :
    nextHas (step (computing fixtureAC4 27898 23843 0))
      (fun t => statusWord t == 0x0000000000020202 && t.rspT10 == 0) = true := by decide +kernel

/-- R191: READ_TEMP placed at reset is written to CONTROL. -/
theorem test_readTemp_written :
    nextHas (step ({ State.reset with bus := [.ok 0 0 0], devAddr := 0x77 }.withFetchWord 8 0x2E))
      (fun t => t.issued == [.busWrite 0x77 0xF4 0x2E] && t.phase == .tWait) = true := by decide

/-- L2-H: T_CMD fails with code 5. -/
theorem test_readTemp_fails :
    nextHas (step { busyIn .readc .tCmd session with bus := [.error 5] })
      (fun t => statusWord t == 0x0000000000100102 && t.xferCode == 5) = true := by decide

/-- L2-S: at mode 3 the pressure command is 0xF4. -/
theorem test_readPressure_written :
    nextHas (step ({ State.reset with bus := [.ok 0 0 0], devAddr := 0x77 }.withFetchWord 8 0xF4))
      (fun t => t.issued == [.busWrite 0x77 0xF4 0xF4] && t.phase == .pWait) = true := by decide

/-- L2-H: P_CMD fails. -/
theorem test_readPressure_fails :
    nextHas (step { busyIn .readc .pCmd session with bus := [.error 5] })
      (fun t => statusWord t == 0x0000000000130102) = true := by decide

/-- L2-P4: T10 floors, and TEMP_C rounds. -/
theorem test_temperature_floors :
    valT10 (constants fixture) 26175 = -1 ∧ stepTempC (-1) = 0xbfb999999999999a := by decide +kernel

/-- L2-P6: AC1 = -15, B3 truncates. -/
theorem test_b3_truncates : valPRESS (constants (fixture.set 0 0xFFF1)) 27898 23843 0 = 71224 := by decide +kernel

/-- L2-P5: the second branch. -/
theorem test_second_branch : valPRESS (constants fixture) 27898 45000 0 = 133323 := by decide +kernel

/-- L2-U: P_RD bytes 0x5D 0x23 0xFF at mode 3. -/
theorem test_raw_pressure : rawPressure (upTriple 0x5D 0x23 0xFF) 3 = 190751 := by decide

/-- L2-K: AC2 as the host reads it. -/
theorem test_calv_sign_extends : readReg 0x11 session = .value 0xFFFFFFFFFFFFFFB8 := by decide

/-- I12: a bus collaborator that has fallen silent leaves the reading in T_CMD with BUSY = 1 and nothing sent. -/
theorem test_silent_bus_waits :
    nextHas (step { busyIn .readc .tCmd session with busSilent := true })
      (fun t => statusWord t == 0x0000000010000003 && t.issued == []) = true := by decide

/-- L2-E's fixture with AC4 = 0, at UP = 100: (UP - B3) × 50000 is negative, so R169's second condition fails. -/
theorem test_second_condition_at_pressure_divisor :
    noWrap (constants fixtureAC4) 27898 100 0 = false ∧ noWrap (constants fixtureAC4) 27898 23843 0 = true := by
  decide +kernel

/-! Witnesses for the statements that have hypotheses. -/

theorem witness_DecodeOfEncodeIsTheInstruction :
    (Instr.comp 0xFFFF 0xFFFFFF 0xFF).wellFormed = true ∧ (Instr.readPressure 3).wellFormed = true := by decide

theorem witness_EncodeOfDecodeIsTheWord : decode (.sensor 0xF4) = some (.readPressure 3) := by decide

/-- The five kinds of reserved word, each one bit away from a command. -/
theorem witness_ReservedHostWordRaisesIllegalOperation :
    (∀ w : Word64, nextAgent (hostDoes (.write 0 w) session) = .host ∧ (hostDoes (.write 0 w) session).host = [.write 0 w]
        ∧ (hostDoes (.write 0 w) session).busy = false ∧ (hostDoes (.write 0 w) session).phase = .idle)
    ∧ (0x0FFFFFFFFFFFFFFF#64).toNat / 2 ^ 60 = 0 ∧ 7 ≤ (0x7000000000000000#64).toNat / 2 ^ 60
    ∧ (0x1000000000010000#64).toNat / 2 ^ 60 = 1 ∧ (0x1000000000010000#64).toNat / 2 ^ 16 % 2 ^ 44 ≠ 0
    ∧ (0x2000000000000001#64).toNat / 2 ^ 60 = 2 ∧ (0x2000000000000001#64).toNat % 2 ^ 60 ≠ 0
    ∧ (0x5800000000000000#64).toNat / 2 ^ 60 = 5 ∧ (0x5800000000000000#64).toNat % 2 ^ 60 ≠ 0
    ∧ (0x6001000000000000#64).toNat / 2 ^ 60 = 6 ∧ (0x6001000000000000#64).toNat / 2 ^ 48 % 2 ^ 12 ≠ 0 := by
  refine ⟨fun _ => ⟨rfl, rfl, rfl, rfl⟩, ?_⟩
  decide

theorem witness_StatementsAssemble :
    255 < 2 ^ 8 ∧ 65535 < 2 ^ 16 ∧ 16777215 < 2 ^ 24 ∧ 2 ^ 64 - 1 < 2 ^ 64
    ∧ (Statement.comp 65535 16777215 255).writesCmd = true
    ∧ assemble (.comp 65535 16777215 255) = some [.write 0 0x6000FFFFFFFFFFFF]
    ∧ 2 ^ 8 ≤ 256 ∧ 2 ^ 16 ≤ 65536 ∧ 2 ^ 24 ≤ 16777216 ∧ 2 ^ 64 ≤ 18446744073709551616
    ∧ assemble (.init 256 0) = none ∧ (Statement.run (.rd .status)).wellFormed = false := by decide +kernel

theorem witness_StepRunsTheDecodedInstruction :
    fetch (session.withFetchWord 64 0x1000000000007700) = some (.host 0x1000000000007700)
    ∧ decode (.host 0x1000000000007700) = some (.init 0x77 0)
    ∧ fetch (session.withFetchWord 8 0x74) = some (.sensor 0x74)
    ∧ decode (.sensor 0x74) = some (.readPressure 1) := by decide

theorem witness_PlacedWordIsFetched : 0xF4 < 256 ∧ decodeTableWord 8 0xF4 = some (.readPressure 3) := by decide

theorem witness_InitStartsTheCalibrationLoad : State.reset.busy = false ∧ (3#8).toNat ≤ 3 := by decide

theorem witness_ReadingsStartAtTCmd :
    (Instr.gett = .gett ∧ HostOp.gett = .gett) ∧ session.busy = false ∧ session.initDone = true := by decide

theorem witness_CompStartsAtCompute : State.reset.busy = false ∧ (3#8).toNat ≤ 3 := by decide

theorem witness_IllegalModeRaisesConfigurationError : State.reset.busy = false ∧ 4 ≤ (4#8).toNat := by decide

theorem witness_ReadingWithoutSessionRaisesArithmeticError :
    (Instr.geta = .geta ∧ HostOp.geta = .geta) ∧ State.reset.busy = false ∧ State.reset.initDone = false := by decide

theorem witness_CommandWriteIsHeldWhileBusy :
    nextAgent (hostDoes (.write 0 7) (busyIn .readc .tCmd session)) = .host
    ∧ (hostDoes (.write 0 7) (busyIn .readc .tCmd session)).host = [.write 0 7]
    ∧ (hostDoes (.write 0 7) (busyIn .readc .tCmd session)).busy = true
    ∧ nextAgent (hostDoes (.write 0 7) session) = .host ∧ (hostDoes (.write 0 7) session).host = [.write 0 7]
    ∧ (hostDoes (.write 0 7) session).busy = false := by decide

theorem witness_StatusWordLayout :
    nextAgent (hostDoes (.write 0x01 7) session) = .host
    ∧ (hostDoes (.write 0x01 7) session).host = [.write 0x01 7] := by decide

theorem witness_HostOperationWhileBusyChangesNothing : (busyIn .readc .tCmd session).busy = true := by decide

theorem witness_InstructionFrame (i : Instr) (s : State) : ∃ t, exec i s = .next t := exec_next i s

theorem witness_ReadTempWritesControl :
    (busyIn .readc .tCmd session).phase = .tCmd
    ∧ busAnswer (.busWrite 0x77 0xF4 0x2E) { busyIn .readc .tCmd session with bus := [.ok 0 0 0] } = some (.ok 0 0 0)
    ∧ busAnswer (.busWrite 0x77 0xF4 0x2E) { busyIn .readc .tCmd session with bus := [.error 5] } = some (.error 5) := by
  decide

/-- Both ends of the mode's range. -/
theorem witness_ReadPressureWritesControl :
    (busyIn .readc .pCmd session).phase = .pCmd ∧ (0x34#8).toNat = 0x34 + session.mode.toNat * 2 ^ 6
    ∧ (0xF4#8).toNat = 0x34 + ({ session with mode := 3 } : State).mode.toNat * 2 ^ 6
    ∧ busAnswer (.busWrite 0x77 0xF4 0x34) { busyIn .readc .pCmd session with bus := [.ok 0 0 0] } = some (.ok 0 0 0)
    ∧ busAnswer (.busWrite 0x77 0xF4 0x34) { busyIn .readc .pCmd session with bus := [.error 5] } = some (.error 5) := by
  decide

theorem witness_SensorCommandOutOfPhaseChangesNothing :
    session.phase ≠ .tCmd ∧ session.phase ≠ .pCmd
    ∧ (busyIn .readc .pCmd session).phase = .pCmd ∧ (1#2) ≠ (busyIn .readc .pCmd session).mode := by decide

/-- The first and the last pair, each answer, each policy. -/
theorem witness_CalRdStagesOrFails :
    (∀ i ∈ [(0 : Fin 11), 9, 10], nextAgent (initIn (.calRd i)) = .block ∧ (initIn (.calRd i)).phase = .calRd i)
    ∧ (0xAA#8).toNat = 0xAA + 2 * (0 : Fin 11).val ∧ (0xBE#8).toNat = 0xAA + 2 * (10 : Fin 11).val
    ∧ busAnswer (.busRead 0x77 0xBE 2) { initIn (.calRd 10) with bus := [.ok 1 2 0] } = some (.ok 1 2 0)
    ∧ busAnswer (.busRead 0x77 0xBE 2) { initIn (.calRd 10) with bus := [.error 5] } = some (.error 5)
    ∧ (initIn (.calRd 10)).policy = .failFast
    ∧ ({ initIn (.calRd 10) with policy := .referenceZeroFill } : State).policy = .referenceZeroFill := by decide

theorem witness_CalCommitWritesTheSession :
    nextAgent (initIn .calCommit) = .block ∧ (initIn .calCommit).phase = .calCommit
    ∧ (initIn .calCommit).curOp.op = .init := by decide

theorem witness_WaitsRunFromRequestToSignal :
    (nextAgent (busyIn .readc .tWait session) = .block ∧ (busyIn .readc .tWait session).phase = .tWait
      ∧ (busyIn .readc .tWait session).timer = none)
    ∧ (nextAgent (busyIn .readc .pWait session) = .block ∧ (busyIn .readc .pWait session).phase = .pWait
      ∧ (busyIn .readc .pWait session).timer = none)
    ∧ nextAgent { busyIn .readc .tWait session with timer := some .temperature, schedule := [.block] } = .block
    ∧ nextAgent { busyIn .readc .tWait session with timer := some .temperature } = .timer
    ∧ nextAgent { busyIn .readc .pWait session with timer := some (.pressure session.mode) } = .timer := by decide

theorem witness_TRdLatchesTheRawTemperature :
    nextAgent (busyIn .readc .tRd session) = .block ∧ (busyIn .readc .tRd session).phase = .tRd
    ∧ busAnswer (.busRead 0x77 0xF6 2) { busyIn .readc .tRd session with bus := [.ok 0xFF 0xFF 0] } = some (.ok 0xFF 0xFF 0)
    ∧ busAnswer (.busRead 0x77 0xF6 2) { busyIn .readc .tRd session with bus := [.error 5] } = some (.error 5) := by decide

theorem witness_PRdLatchesTheRawPressure :
    nextAgent (busyIn .readc .pRd session) = .block ∧ (busyIn .readc .pRd session).phase = .pRd
    ∧ busAnswer (.busRead 0x77 0xF6 3) { busyIn .readc .pRd session with bus := [.ok 1 2 3] } = some (.ok 1 2 3)
    ∧ busAnswer (.busRead 0x77 0xF6 3) { busyIn .readc .pRd session with bus := [.error 5] } = some (.error 5) := by decide

/-- Each operation, and both outcomes of the pipeline. -/
theorem witness_ComputeWritesTheResponseOrFails :
    (∀ op ∈ [HostOp.readc, .gett, .getp, .geta],
      nextAgent (busyIn op .compute session) = .block ∧ (busyIn op .compute session).phase = .compute
        ∧ (busyIn op .compute session).curOp.op = op)
    ∧ nextAgent (computing fixture 27898 23843 3) = .block ∧ (computing fixture 27898 23843 3).curOp.op = .comp
    ∧ (3#2).toNat = (computing fixture 27898 23843 3).curOp.modeReq.toNat := by decide

theorem witness_pipe_ok : ∃ r : Reading, pipe fixture 27898 23843 0 = .ok r := by
  have h : valDEN (constants fixture) 27898 ≠ 0 ∧ valB4 (constants fixture) 27898 ≠ 0 := by decide +kernel
  have hd : valDEN (constants fixture) ((27898 : Half).toNat : Int) ≠ 0 := h.1
  have hb : valB4 (constants fixture) ((27898 : Half).toNat : Int) ≠ 0 := h.2
  unfold pipe
  exact ⟨_, by rw [if_neg hd, if_neg hb]⟩

theorem witness_pipe_error :
    pipe fixtureMD 27898 23843 0 = .arithmeticError 0x01 ∧ pipe fixtureAC4 27898 23843 0 = .arithmeticError 0x02 := by
  have h1 : valDEN (constants fixtureMD) ((27898 : Half).toNat : Int) = 0 := by decide +kernel
  have h2 : valDEN (constants fixtureAC4) ((27898 : Half).toNat : Int) ≠ 0 := by decide +kernel
  have h3 : valB4 (constants fixtureAC4) ((27898 : Half).toNat : Int) = 0 := by decide +kernel
  constructor
  · unfold pipe
    exact if_pos h1
  · unfold pipe
    exact (if_neg h2).trans (if_pos h3)

theorem witness_ConfigWordLayoutAndStrap : ∃ t, step session = .next t := ⟨session, rfl⟩

/-- Each clause, at the ends of its ranges. -/
theorem witness_HostReadReturnsOrStops :
    (∀ j : HostIndex, nextAgent (hostDoes (.read j) session) = .host ∧ (hostDoes (.read j) session).host = [.read j])
    ∧ (0x00#5).toNat ≤ 3 ∧ (0x03#5).toNat ≤ 3 ∧ 0x10 ≤ (0x10#5).toNat ∧ (0x1A#5).toNat ≤ 0x1A
    ∧ 0x08 ≤ (0x08#5).toNat ∧ (0x0F#5).toNat ≤ 0x0F ∧ 0x1B ≤ (0x1B#5).toNat
    ∧ ({ session with rspValid := 0b001 } : State).rspValid.getLsbD 0 = true
    ∧ ({ session with rspValid := 0b010 } : State).rspValid.getLsbD 1 = true
    ∧ ({ session with rspValid := 0b100 } : State).rspValid.getLsbD 2 = true
    ∧ session.rspValid.getLsbD 0 = false ∧ session.rspValid.getLsbD 1 = false ∧ session.rspValid.getLsbD 2 = false := by
  decide

/-- Each clause, at the ends of its ranges. -/
theorem witness_HostWriteByIndex :
    (∀ (j : HostIndex) (w : Word64),
      nextAgent (hostDoes (.write j w) session) = .host ∧ (hostDoes (.write j w) session).host = [.write j w])
    ∧ session.busy = false ∧ decode (.host 0x2000000000000000) = some .readc
    ∧ (0x01#5) ≠ 0 ∧ (0x07#5).toNat ≤ 7 ∧ 0x10 ≤ (0x10#5).toNat ∧ (0x1A#5).toNat ≤ 0x1A
    ∧ 0x08 ≤ (0x08#5).toNat ∧ (0x0F#5).toNat ≤ 0x0F ∧ 0x1B ≤ (0x1B#5).toNat := by
  refine ⟨fun _ _ => ⟨rfl, rfl⟩, ?_⟩
  decide

theorem witness_WaitPollsStatus :
    nextAgent (hostDoes .waitIdle session) = .host ∧ (hostDoes .waitIdle session).host = [.waitIdle] := by decide

theorem witness_ResetEventAbandonsTheOperation :
    nextAgent { busyIn .readc .pCmd session with schedule := [.reset] } = .reset := by decide

theorem witness_OperationsAfterReset : (3#8).toNat ≤ 3 := by decide

theorem witness_DegenerateConstantsFail :
    fixtureAC4[3] = 0 ∧ valDEN (constants fixtureAC4) (27898 : Half).toNat ≠ 0 := by decide +kernel

/-- The hypotheses of R9's clauses, at the ends of their ranges. -/
theorem witness_WidthFunctionsFollowTheirDefinitions :
    -(2 ^ 31) ≤ (-(2 ^ 31) : Int) ∧ -(2 ^ 31) ≤ (2 ^ 31 - 1 : Int) ∧ (0 : Int) ≤ 2 ^ 32 - 1 ∧ (-1 : Int) ≠ 0
    ∧ (0 : Int) ≤ 0 ∧ (0 : Int) < 1 := by decide

/-- A run that ends at each zero divisor, and one that succeeds. -/
theorem witness_PipelineRanges :
    valDEN (constants fixtureMD) (27898 : Half).toNat = 0
    ∧ (valDEN (constants fixtureAC4) (27898 : Half).toNat ≠ 0 ∧ valB4 (constants fixtureAC4) (27898 : Half).toNat = 0)
    ∧ valDEN (constants fixture) (27898 : Half).toNat ≠ 0 ∧ valB4 (constants fixture) (27898 : Half).toNat ≠ 0 := by
  decide +kernel

theorem witness_AltitudeOfPressure : (0 : Int) ≤ 2 ^ 32 - 1 ∧ (2 ^ 32 - 1 : Int) ≤ 2 ^ 32 - 1 := by decide

/-- 2^53 + 1 lies halfway between 2^53 and 2^53 + 2, and goes to the even significand of 2^53. -/
theorem test_tie_to_even :
    roundRatio (2 ^ 53 + 1) 1 = 0x4340000000000000 ∧ roundRatio (2 ^ 53 + 3) 1 = 0x4340000000000002 := by
  decide +kernel

/-- A ratio on each side of the overflow bound, the tie above, and a pattern to compare with. -/
theorem witness_RoundingIsToNearest :
    0 < 1 ∧ (2 ^ 54 - 1) * 2 ^ 970 - 1 < (2 ^ 54 - 1) * 2 ^ 970 * 1 ∧ (2 ^ 54 - 1) * 2 ^ 970 * 1 ≤ (2 ^ 54 - 1) * 2 ^ 970
    ∧ 2 ^ 53 + 1 < (2 ^ 54 - 1) * 2 ^ 970 * 1 ∧ ∃ r : ℚ, value64 0x4340000000000001 = some r := by
  have h : (value64 0x4340000000000001).isSome = true := by decide +kernel
  obtain ⟨r, hr⟩ := Option.isSome_iff_exists.mp h
  exact ⟨by decide +kernel, by decide +kernel, by decide +kernel, by decide +kernel, r, hr⟩

theorem witness_TempCIsNearestToTenths :
    -(2 ^ 27) ≤ (-(2 ^ 27) : Int) ∧ (-(2 ^ 27) : Int) ≤ 2 ^ 27 - 1 ∧ -(2 ^ 27) ≤ (2 ^ 27 - 1 : Int) := by decide

/-- L2-C: the fixture lies inside NW; so do the two zero divisors of L2-E. -/
theorem witness_WideFormulaAgreesOnNoWrapDomain :
    (noWrap (constants fixture) (27898 : Half).toNat (43371 : Triple).toNat (0 : BitVec 2).toNat = true
      ∧ widePipe (constants fixture) 27898 43371 0 = .ok 150 128433)
    ∧ (noWrap (constants fixtureMD) (27898 : Half).toNat (23843 : Triple).toNat (0 : BitVec 2).toNat = true
      ∧ widePipe (constants fixtureMD) 27898 23843 0 = .zeroDivisor 0x01)
    ∧ noWrap (constants fixtureAC4) (27898 : Half).toNat (23843 : Triple).toNat (0 : BitVec 2).toNat = true
      ∧ widePipe (constants fixtureAC4) 27898 23843 0 = .zeroDivisor 0x02 := by decide +kernel

/-- The second block has another history, another host and another answer waiting. -/
theorem witness_ComputeDependsOnItsOperandsAlone :
    ∃ s t s' t' : State, s ≠ t ∧ nextAgent s = .block ∧ nextAgent t = .block ∧ s.phase = .compute ∧ t.phase = .compute
      ∧ s.cal = t.cal ∧ s.utL = t.utL ∧ s.upL = t.upL ∧ s.mode = t.mode ∧ s.curOp.op = t.curOp.op
      ∧ s.curOp.modeReq = t.curOp.modeReq ∧ step s = .next s' ∧ step t = .next t' :=
  ⟨computing fixture 27898 23843 0,
    { computing fixture 27898 23843 0 with rspT10 := 7, bus := [.error 1], issued := [.wait .temperature] }, _, _,
    by decide, by decide, by decide, rfl, rfl, rfl, rfl, rfl, rfl, rfl, rfl, step_block (by decide),
    step_block (by decide)⟩

/-! States that meet the invariant. -/

theorem session_meets_the_invariant : RegInv session := by
  constructor <;> simp [session, State.reset, inInit, inAcquisition]

theorem init_meets_the_invariant : RegInv { initIn (.calRd 0) with bus := [.error 5] } := by
  constructor <;> simp [initIn, State.reset, inInit, inAcquisition]

theorem reading_meets_the_invariant (bus : List BusAnswer) : RegInv { busyIn .readc .tCmd session with bus := bus } := by
  constructor <;> simp [busyIn, session, State.reset, inInit, inAcquisition, isReading]

theorem compute_meets_the_invariant : RegInv (computing fixture 27898 23843 0) := by
  constructor <;> simp [computing, session, State.reset, inInit, inAcquisition, isReading]

theorem witness_StepKeepsTheInvariant :
    RegInv (computing fixture 27898 23843 0) ∧ ∃ t, step (computing fixture 27898 23843 0) = .next t :=
  ⟨compute_meets_the_invariant, _, step_block (by decide)⟩

/-- The fixture session's reading has the pressure result in hand next. -/
def lastRead : State :=
  { busyIn .readc .pRd session with
    bus := [.ok 0x5D 0x23 0x00]
    issued := [.wait (.pressure 0), .busWrite 0x77 0xF4 0x34, .busRead 0x77 0xF6 2, .wait .temperature,
      .busWrite 0x77 0xF4 0x2E] }

theorem lastRead_meets_the_invariant : RegInv lastRead := by
  constructor <;> simp [lastRead, busyIn, session, State.reset, inInit, inAcquisition, isReading]

/-- The first phase of a reading, and the step into COMPUTE. -/
theorem witness_StepKeepsTheReadingOrder :
    (RegInv { busyIn .readc .tCmd session with bus := [.ok 0 0 0] }
      ∧ ReadingOrder { busyIn .readc .tCmd session with bus := [.ok 0 0 0] }
      ∧ ∃ t, step { busyIn .readc .tCmd session with bus := [.ok 0 0 0] } = .next t)
    ∧ RegInv lastRead ∧ ReadingOrder lastRead ∧ (∃ t, step lastRead = .next t)
    ∧ nextHas (step lastRead) (fun t => t.phase == .compute && isReading t.curOp.op) = true :=
  ⟨⟨reading_meets_the_invariant _, trivial, _, step_block (by decide)⟩, lastRead_meets_the_invariant, ⟨[], rfl⟩,
    ⟨_, step_block (by decide)⟩, by decide⟩

theorem witness_SessionChangesOnlyAtCommitOrReset :
    (∃ t, step (busyIn .readc .tCmd session) = .next t) ∧ nextAgent (busyIn .readc .tCmd session) ≠ .reset
    ∧ ¬(nextAgent (busyIn .readc .tCmd session) = .block ∧ (busyIn .readc .tCmd session).phase = .calCommit)
    ∧ (busyIn .readc .tCmd session).initDone = true :=
  ⟨⟨_, step_block (by decide)⟩, by decide, by decide, rfl⟩

theorem witness_StepSendsAtMostOneLegalTransaction : ∃ t, step { initIn (.calRd 0) with bus := [.error 5] } = .next t :=
  ⟨_, step_block (by decide)⟩

theorem witness_ResponseWrittenOnlyByASuccessfulCompute :
    (∃ t, step (computing fixture 27898 23843 0) = .next t) ∧ nextAgent (computing fixture 27898 23843 0) ≠ .reset :=
  ⟨⟨_, step_block (by decide)⟩, by decide⟩

theorem witness_FailedOperationLeavesNoPartialResult :
    RegInv { initIn (.calRd 0) with bus := [.error 5] } ∧ ({ initIn (.calRd 0) with bus := [.error 5] } : State).busy = true
    ∧ nextHas (step { initIn (.calRd 0) with bus := [.error 5] }) (fun t => !t.busy && t.err != 0) = true :=
  ⟨init_meets_the_invariant, rfl, by decide⟩

theorem refused_command_meets_the_invariant (w : Word64) : RegInv (hostDoes (.write 0 w) session) := by
  constructor <;> simp [hostDoes, session, State.reset, inInit, inAcquisition]

theorem witness_ErrorStatusPersistsUntilAcceptance :
    (RegInv session ∧ session.busy = false ∧ (∃ t, step session = .next t) ∧ nextAgent session ≠ .reset
      ∧ ¬(nextAgent session = .host ∧ ∃ (w : Word64) (rest : List HostAccess), session.host = .write 0 w :: rest))
    ∧ RegInv (hostDoes (.write 0 0) session) ∧ (hostDoes (.write 0 0) session).busy = false
    ∧ (∃ t, step (hostDoes (.write 0 0) session) = .next t) ∧ nextAgent (hostDoes (.write 0 0) session) = .host
    ∧ ∃ (w : Word64) (rest : List HostAccess), (hostDoes (.write 0 0) session).host = .write 0 w :: rest :=
  ⟨⟨session_meets_the_invariant, rfl, ⟨session, rfl⟩, by decide, by simp [session, State.reset]⟩,
    refused_command_meets_the_invariant 0, rfl, ⟨_, step_accept rfl rfl rfl⟩, rfl, 0, [], rfl⟩

theorem held_write_meets_the_invariant (bus : List BusAnswer) :
    RegInv { busyIn .readc .tCmd session with bus := bus, host := [.write 0 7] } := by
  constructor <;> simp [busyIn, session, State.reset, inInit, inAcquisition, isReading]

/-- The first phase of each operation, and a CMD write held meanwhile. -/
theorem witness_OperationsCompleteInBoundedSteps :
    (RegInv { initIn (.calRd 0) with bus := [.error 5] } ∧ (initIn (.calRd 0)).schedule = []
      ∧ (initIn (.calRd 0)).afterSchedule = none ∧ (initIn (.calRd 0)).busSilent = false ∧ (initIn (.calRd 0)).busy = true
      ∧ (initIn (.calRd 0)).phase = .calRd 0)
    ∧ (RegInv { busyIn .readc .tCmd session with bus := [], host := [.write 0 7] }
      ∧ (busyIn .readc .tCmd session).schedule = [] ∧ (busyIn .readc .tCmd session).afterSchedule = none
      ∧ (busyIn .readc .tCmd session).busSilent = false ∧ (busyIn .readc .tCmd session).phase = .tCmd)
    ∧ RegInv (computing fixture 27898 23843 0) ∧ (computing fixture 27898 23843 0).schedule = []
    ∧ (computing fixture 27898 23843 0).afterSchedule = none ∧ (computing fixture 27898 23843 0).busSilent = false
    ∧ (computing fixture 27898 23843 0).phase = .compute :=
  ⟨⟨init_meets_the_invariant, rfl, rfl, rfl, rfl, rfl⟩, ⟨held_write_meets_the_invariant _, rfl, rfl, rfl, rfl⟩,
    compute_meets_the_invariant, rfl, rfl, rfl, rfl⟩

/-- Each way to wait: a silent bus, a timer that does not signal, a block that does not move. -/
theorem witness_UnansweredOperationWaits :
    (∀ p ∈ [Phase.calRd 0, .calRd 10, .tCmd, .tRd, .pCmd, .pRd],
      nextAgent { busyIn .readc p session with busSilent := true } = .block
        ∧ (busyIn .readc p session).bus = [] ∧ (busyIn .readc p session).schedule = []
        ∧ (busyIn .readc p session).afterSchedule = none ∧ (busyIn .readc p session).busy = true
        ∧ (busyIn .readc p session).timer = none ∧ (busyIn .readc p session).phase = p)
    ∧ ({ busyIn .readc .pWait session with timer := some (.pressure 0), afterSchedule := some .block } : State).timer ≠ none
    ∧ ({ busyIn .readc .pWait session with host := [.write 0 7], afterSchedule := some .host } : State).busy = true
    ∧ readReg 0x01 { busyIn .readc .pWait session with host := [.waitIdle], afterSchedule := some .host }
        = .value 0x0000000014000003 := by decide

/-- The eleven answers, each pair (1, 2). -/
def elevenAnswers : List BusAnswer := List.ofFn fun _ : Fin 11 => BusAnswer.ok 1 2 0

theorem witness_InitLoadsTheElevenPairs :
    RegInv { initIn (.calRd 0) with bus := elevenAnswers } ∧ (initIn (.calRd 0)).schedule = []
    ∧ (initIn (.calRd 0)).afterSchedule = none ∧ (initIn (.calRd 0)).phase = .calRd 0
    ∧ elevenAnswers = (List.ofFn fun i : Fin 11 =>
        BusAnswer.ok (Vector.replicate 11 1#8)[i] (Vector.replicate 11 2#8)[i] (Vector.replicate 11 0#8)[i]) ++ [] := by
  refine ⟨?_, rfl, rfl, rfl, by decide⟩
  constructor <;> simp [initIn, State.reset, inInit, inAcquisition]

/-- L3-1: the four answers of the reading, and the raw pressure they assemble to. -/
theorem witness_ReadingDeliversTheCompensatedSample :
    RegInv { busyIn .readc .tCmd session with bus := [.ok 0 0 0, .ok 0x6C 0xFA 0, .ok 0 0 0, .ok 0x5D 0x23 0x00] }
    ∧ (busyIn .readc .tCmd session).schedule = [] ∧ (busyIn .readc .tCmd session).afterSchedule = none
    ∧ (busyIn .readc .tCmd session).phase = .tCmd
    ∧ (23843 : Triple).toNat
        = ((0x5D#8).toNat * 2 ^ 16 + (0x23#8).toNat * 2 ^ 8 + (0x00#8).toNat) / 2 ^ (8 - session.mode.toNat)
    ∧ BitVec.ofNat 16 ((0x6C#8).toNat * 256 + (0xFA#8).toNat) = 27898
    ∧ ∃ r : Reading, pipe session.cal 27898 23843 session.mode = .ok r :=
  ⟨reading_meets_the_invariant _, rfl, rfl, rfl, by decide, by decide, witness_pipe_ok⟩

end Sys2Proof.Tests
end

section
/-! PROOFS. R9: the width functions and the divisions against their definitions, and O39. -/

namespace Sys2Proof.Machine

theorem s32_eq_iff (v w : Int) : s32 v = w ↔ -(2 ^ 31) ≤ w ∧ w ≤ 2 ^ 31 - 1 ∧ (2 ^ 32 : Int) ∣ w - v := by
  unfold s32
  rw [Int.bmod_def]
  split <;> omega

theorem u32_eq_iff (v w : Int) : u32 v = w ↔ 0 ≤ w ∧ w ≤ 2 ^ 32 - 1 ∧ (2 ^ 32 : Int) ∣ w - v := by
  unfold u32
  omega

theorem asr_eq_floor (v : Int) (n : Nat) : asr v n = ⌊(v : ℚ) / 2 ^ n⌋ := by
  rw [← Nat.cast_ofNat, ← Nat.cast_pow, Rat.floor_intCast_div_natCast]
  rfl

theorem lsr_eq_floor (v : Int) (n : Nat) : lsr v n = ⌊(v : ℚ) / 2 ^ n⌋ := asr_eq_floor v n

theorem udiv_eq_floor (a : Int) {b : Int} (hb : 0 < b) : udiv a b = ⌊(a : ℚ) / b⌋ := by
  obtain ⟨n, rfl⟩ := Int.eq_ofNat_of_zero_le hb.le
  rw [Int.cast_natCast, Rat.floor_intCast_div_natCast]
  rfl

theorem shl32_eq_s32_mul (v : Int) (n : Nat) : shl32 v n = s32 (v * 2 ^ n) := by
  simp [shl32]

/-- Both sides have the sign of a * b and the absolute value |a| / |b|, or are 0 where |a| < |b|. -/
theorem tdiv_eq_sign_mul_floor (a b : Int) : tdiv a b = (a * b).sign * ⌊(|a| : ℚ) / (|b| : ℚ)⌋ := by
  rw [← Int.cast_abs, ← Int.cast_abs, ← Int.natCast_natAbs, ← Int.natCast_natAbs, Int.cast_natCast, Int.cast_natCast,
    Rat.floor_natCast_div_natCast, Int.sign_mul]
  unfold tdiv
  conv_lhs => rw [← Int.sign_mul_natAbs (a.tdiv b), Int.sign_tdiv, Int.natAbs_tdiv]
  split
  · next h => rw [← Int.natCast_div, Nat.div_eq_of_lt h, Int.natCast_zero, zero_mul, mul_zero]
  · rfl

theorem s32_add_s32 (a b : Int) : s32 (s32 a + s32 b) = s32 (a + b) := (Int.add_bmod a b _).symm

theorem s32_sub_s32 (a b : Int) : s32 (s32 a - s32 b) = s32 (a - b) := (Int.sub_bmod a b _).symm

theorem s32_mul_s32 (a b : Int) : s32 (s32 a * s32 b) = s32 (a * b) := (Int.mul_bmod a b _).symm

theorem u32_add_u32 (a b : Int) : u32 (u32 a + u32 b) = u32 (a + b) := (Int.add_emod a b _).symm

theorem u32_sub_u32 (a b : Int) : u32 (u32 a - u32 b) = u32 (a - b) := (Int.sub_emod a b _).symm

theorem u32_mul_u32 (a b : Int) : u32 (u32 a * u32 b) = u32 (a * b) := (Int.mul_emod a b _).symm

/-- Settles O39: one lemma per function and per operation a wrap commutes with; and each
shift and division has a value at the edge of its range where it does not. -/
theorem widthFunctionsFollowTheirDefinitions : Obligations.WidthFunctionsFollowTheirDefinitions := by
  unfold Obligations.WidthFunctionsFollowTheirDefinitions
  exact ⟨s32_eq_iff, u32_eq_iff, fun h => ⟨rfl, rfl⟩, fun v n _ _ => asr_eq_floor v n,
    fun v n _ _ => lsr_eq_floor v n, shl32_eq_s32_mul, fun a b _ => tdiv_eq_sign_mul_floor a b,
    fun a b _ hb => udiv_eq_floor a hb,
    fun a b => ⟨s32_add_s32 a b, s32_sub_s32 a b, s32_mul_s32 a b, u32_add_u32 a b, u32_sub_u32 a b, u32_mul_u32 a b⟩,
    by decide, by decide, by decide, by decide⟩

end Sys2Proof.Machine
end

section
/-! PROOFS. R10: rounding a ratio to binary64, and O45. The unit in the last place and the significand of `roundRatio` get
names, and the rounding is what they say; nearness is shown in multiples of that unit. -/

namespace Sys2Proof.Machine

/-- `roundHalfEven` is within half a divisor of the dividend, and is even where it is exactly half a divisor away. -/
theorem roundHalfEven_mul_bounds (a b : Nat) (hb : 0 < b) :
    2 * (b * roundHalfEven a b) ≤ 2 * a + b ∧ 2 * a ≤ 2 * (b * roundHalfEven a b) + b
    ∧ (2 * (b * roundHalfEven a b) = 2 * a + b ∨ 2 * a = 2 * (b * roundHalfEven a b) + b →
      roundHalfEven a b % 2 = 0) := by
  have hdiv := Nat.div_add_mod a b
  have hr := Nat.mod_lt a hb
  unfold roundHalfEven
  simp only
  split
  · rw [Nat.mul_add]
    omega
  · omega

/-- `roundHalfEven a b` lies within 1/2 of a / b, and where it is 1/2 away it is even. -/
theorem roundHalfEven_within_half (a b : Nat) (hb : 0 < b) :
    |(roundHalfEven a b : ℚ) - a / b| ≤ 1 / 2
    ∧ (|(roundHalfEven a b : ℚ) - a / b| = 1 / 2 → roundHalfEven a b % 2 = 0) := by
  obtain ⟨hup, hlow, htie⟩ := roundHalfEven_mul_bounds a b hb
  have hbq : (0 : ℚ) < b := by exact_mod_cast hb
  have hup' : 2 * (b * (roundHalfEven a b : ℚ)) ≤ 2 * a + b := by exact_mod_cast hup
  have hlow' : 2 * (a : ℚ) ≤ 2 * (b * roundHalfEven a b) + b := by exact_mod_cast hlow
  have hdist : (roundHalfEven a b : ℚ) - a / b = (b * roundHalfEven a b - a) / b := by field_simp
  rw [hdist, abs_div, abs_of_pos hbq, div_le_iff₀ hbq, div_eq_iff hbq.ne']
  refine ⟨abs_le.mpr ⟨by linarith, by linarith⟩, fun h => htie ?_⟩
  rcases abs_eq (by positivity) |>.mp h with h | h
  · left
    have : 2 * (b * (roundHalfEven a b : ℚ)) = 2 * a + b := by linarith
    exact_mod_cast this
  · right
    have : 2 * (a : ℚ) = 2 * (b * roundHalfEven a b) + b := by linarith
    exact_mod_cast this

/-- Rounding does not pass an integer whose upper half unit the ratio stays below. -/
theorem roundHalfEven_le_of_lt {a b c : Nat} (hb : 0 < b) (h : (a : ℚ) / b < c + 1 / 2) : roundHalfEven a b ≤ c := by
  have hnear := (abs_le.mp (roundHalfEven_within_half a b hb).1).2
  have : (roundHalfEven a b : ℚ) < c + 1 := by linarith
  exact_mod_cast Nat.lt_succ_iff.mp (by exact_mod_cast this)

/-- Rounding reaches an even integer from half a unit below it on. -/
theorem le_roundHalfEven_of_even {a b c : Nat} (hb : 0 < b) (hc : c % 2 = 0) (h : (c : ℚ) - 1 / 2 ≤ a / b) :
    c ≤ roundHalfEven a b := by
  obtain ⟨hnear, htie⟩ := roundHalfEven_within_half a b hb
  by_contra hlt
  have hle : (roundHalfEven a b : ℚ) + 1 ≤ c := by exact_mod_cast Nat.lt_of_not_le hlt
  have hlow := (abs_le.mp hnear).1
  have hsucc : roundHalfEven a b + 1 = c := by
    have : (roundHalfEven a b : ℚ) + 1 = c := by linarith
    exact_mod_cast this
  have hhalf : |(roundHalfEven a b : ℚ) - a / b| = 1 / 2 := by
    rw [abs_of_nonpos (by linarith)]
    linarith
  have heven := htie hhalf
  omega

/-- Where another integer lies as near to the ratio, the rounded one is even. -/
theorem roundHalfEven_even_of_tie {a b : Nat} (hb : 0 < b) {z : Int} (hz : z ≠ (roundHalfEven a b : Int))
    (h : |(roundHalfEven a b : ℚ) - a / b| = |(z : ℚ) - a / b|) : roundHalfEven a b % 2 = 0 := by
  obtain ⟨hnear, htie⟩ := roundHalfEven_within_half a b hb
  have hgap : (1 : ℚ) ≤ |(z : ℚ) - (roundHalfEven a b : ℚ)| := by
    exact_mod_cast Int.one_le_abs (sub_ne_zero.mpr hz)
  have htri := abs_sub_le (z : ℚ) (a / b) (roundHalfEven a b)
  rw [abs_sub_comm ((a : ℚ) / b)] at htri
  exact htie (by linarith)

/-- The exponent of the unit in the last place of num / den: the `u` of `roundRatio`. -/
def ratioUlp (num den : Nat) : Int := max (floorLog2 num den - 52) (-1074)

/-- num / den in units of its last place, rounded: the `q` of `roundRatio`. -/
def ratioSignificand (num den : Nat) : Nat :=
  roundHalfEven (num * 2 ^ (-ratioUlp num den).toNat) (den * 2 ^ (ratioUlp num den).toNat)

/-- The rational that the rounded significand stands for. -/
def roundedRatio (num den : Nat) : ℚ := ratioSignificand num den * (2 : ℚ) ^ ratioUlp num den

theorem roundRatio_eq_min {num : Nat} (den : Nat) (hnum : num ≠ 0) :
    roundRatio num den
      = min ((ratioUlp num den + 1074).toNat * 2 ^ 52 + ratioSignificand num den) infMagnitude := by
  unfold roundRatio
  rw [if_neg hnum]
  rfl

theorem ratioUlp_ge (num den : Nat) : -1074 ≤ ratioUlp num den := le_max_right _ _

/-- The two integers that `roundRatio` divides have the ratio num / den in units of its last place. -/
theorem scaled_ratio (num den : Nat) (u : Int) :
    ((num * 2 ^ (-u).toNat : Nat) : ℚ) / (den * 2 ^ u.toNat : Nat) = num / den / 2 ^ u := by
  have hu : (2 : ℚ) ^ u = 2 ^ u.toNat / 2 ^ (-u).toNat := by
    rw [← zpow_natCast, ← zpow_natCast, ← zpow_sub₀ two_ne_zero, Int.toNat_sub_toNat_neg]
  rw [hu]
  push_cast
  field_simp

/-- Below the next power of two a ratio has at most 53 bits before the point, in units of its last place. -/
theorem ratio_lt_ulps {num den : Nat} (hnum : num ≠ 0) (hden : den ≠ 0) :
    (num : ℚ) / den < 2 ^ 53 * (2 : ℚ) ^ ratioUlp num den := by
  have hexp : floorLog2 num den + 1 ≤ 53 + ratioUlp num den := by
    unfold ratioUlp
    omega
  calc (num : ℚ) / den < 2 ^ (floorLog2 num den + 1) := (floorLog2_spec num den hnum hden).2
    _ ≤ 2 ^ (53 + ratioUlp num den) := zpow_le_zpow_right₀ one_le_two hexp
    _ = 2 ^ 53 * 2 ^ ratioUlp num den := zpow_add₀ two_ne_zero _ _

/-- Above the smallest unit a ratio has at least 53 bits before the point, in units of its last place. -/
theorem ulps_le_ratio {num den : Nat} (hnum : num ≠ 0) (hden : den ≠ 0) (hu : -1074 < ratioUlp num den) :
    2 ^ 52 * (2 : ℚ) ^ ratioUlp num den ≤ num / den := by
  have hexp : floorLog2 num den = 52 + ratioUlp num den := by
    unfold ratioUlp at hu ⊢
    omega
  calc 2 ^ 52 * (2 : ℚ) ^ ratioUlp num den = 2 ^ (52 + ratioUlp num den) := (zpow_add₀ two_ne_zero 52 _).symm
    _ = 2 ^ floorLog2 num den := by rw [hexp]
    _ ≤ num / den := (floorLog2_spec num den hnum hden).1

theorem ratioSignificand_le_of_lt {num den c : Nat} (hden : den ≠ 0)
    (h : (num : ℚ) / den < (c + 1 / 2) * 2 ^ ratioUlp num den) : ratioSignificand num den ≤ c := by
  refine roundHalfEven_le_of_lt (by positivity) ?_
  rwa [scaled_ratio, div_lt_iff₀ (by positivity)]

theorem le_ratioSignificand_of_even {num den c : Nat} (hden : den ≠ 0) (hc : c % 2 = 0)
    (h : (c - 1 / 2) * (2 : ℚ) ^ ratioUlp num den ≤ num / den) : c ≤ ratioSignificand num den := by
  refine le_roundHalfEven_of_even (by positivity) hc ?_
  rwa [scaled_ratio, le_div_iff₀ (by positivity)]

theorem ratioSignificand_le {num den : Nat} (hnum : num ≠ 0) (hden : den ≠ 0) : ratioSignificand num den ≤ 2 ^ 53 := by
  refine ratioSignificand_le_of_lt hden ((ratio_lt_ulps hnum hden).trans_le ?_)
  gcongr
  norm_num

theorem le_ratioSignificand {num den : Nat} (hnum : num ≠ 0) (hden : den ≠ 0) (hu : -1074 < ratioUlp num den) :
    2 ^ 52 ≤ ratioSignificand num den := by
  refine le_ratioSignificand_of_even hden (by norm_num) (le_trans ?_ (ulps_le_ratio hnum hden hu))
  gcongr
  norm_num

/-- Among the multiples of the unit in the last place, the rounded significand's is nearest, and on a tie it is even. -/
theorem ratioSignificand_nearest_multiple (num : Nat) {den : Nat} (hden : den ≠ 0) (k : Int) :
    |roundedRatio num den - num / den| ≤ |(k : ℚ) * 2 ^ ratioUlp num den - num / den|
    ∧ (|roundedRatio num den - num / den| = |(k : ℚ) * 2 ^ ratioUlp num den - num / den| →
      k ≠ (ratioSignificand num den : Int) → ratioSignificand num den % 2 = 0) := by
  have hpos : (0 : ℚ) < 2 ^ ratioUlp num den := by positivity
  have hscale : ∀ w : ℚ, |w * 2 ^ ratioUlp num den - num / den|
      = |w - num / den / 2 ^ ratioUlp num den| * 2 ^ ratioUlp num den := by
    intro w
    rw [← abs_of_pos hpos, ← abs_mul, abs_of_pos hpos, sub_mul, div_mul_cancel₀ _ hpos.ne']
  unfold roundedRatio
  rw [hscale, hscale, mul_le_mul_iff_of_pos_right hpos, mul_left_inj' hpos.ne', ← scaled_ratio]
  exact ⟨roundHalfEven_nearest _ _ (by positivity) k, fun h hk => roundHalfEven_even_of_tie (by positivity) hk h⟩

/-- A binary64 value with a smaller unit than the ratio's lies below the least significand of 53 bits, and so does worse than
that one. -/
theorem finer_value_is_farther {num den : Nat} (hnum : num ≠ 0) (hden : den ≠ 0) {z v : Int} (hz : |z| < 2 ^ 53)
    (hv : -1074 ≤ v) (hvu : v < ratioUlp num den) :
    |2 ^ 52 * (2 : ℚ) ^ ratioUlp num den - num / den| < |z * (2 : ℚ) ^ v - num / den| := by
  have hbelow : z * (2 : ℚ) ^ v < 2 ^ 52 * (2 : ℚ) ^ ratioUlp num den := by
    have hz' : (z : ℚ) < 2 ^ 53 := by exact_mod_cast (abs_lt.mp hz).2
    calc z * (2 : ℚ) ^ v < 2 ^ 53 * 2 ^ v := by gcongr
      _ = 2 ^ 52 * 2 ^ (v + 1) := by
        rw [zpow_add_one₀ two_ne_zero]
        ring
      _ ≤ 2 ^ 52 * 2 ^ ratioUlp num den := by
        gcongr
        · exact one_le_two
        · omega
  have hratio := ulps_le_ratio hnum hden (hv.trans_lt hvu)
  rw [abs_of_nonpos (by linarith), abs_of_nonpos (by linarith)]
  linarith

/-- A finite binary64 value is a multiple of the ratio's unit or has a finer one; neither kind beats the rounding. -/
theorem ratioSignificand_nearest_value {num den : Nat} (hnum : num ≠ 0) (hden : den ≠ 0) {y : Binary64} {r : ℚ}
    (hr : value64 y = some r) :
    |roundedRatio num den - num / den| ≤ |r - num / den|
    ∧ (|roundedRatio num den - num / den| = |r - num / den| →
      r ≠ roundedRatio num den → ratioSignificand num den % 2 = 0) := by
  obtain ⟨z, v, rfl, hv, hz⟩ := value64_form y r hr
  rcases le_or_gt (ratioUlp num den) v with hvu | hvu
  · obtain ⟨n, hn⟩ := Int.le.dest hvu
    have hmultiple : (z : ℚ) * 2 ^ v = ((z * 2 ^ n : Int) : ℚ) * 2 ^ ratioUlp num den := by
      rw [← hn, zpow_add₀ two_ne_zero, zpow_natCast]
      push_cast
      ring
    obtain ⟨hnear, htie⟩ := ratioSignificand_nearest_multiple num hden (z * 2 ^ n)
    rw [hmultiple]
    refine ⟨hnear, fun h hne => htie h fun hk => hne ?_⟩
    rw [hk, Int.cast_natCast, roundedRatio]
  · have hfar := finer_value_is_farther hnum hden hz hv hvu
    obtain ⟨hnear, -⟩ := ratioSignificand_nearest_multiple num hden (2 ^ 52)
    push_cast at hnear
    exact ⟨(hnear.trans_lt hfar).le, fun h => absurd h (hnear.trans_lt hfar).ne⟩

/-- The overflow bound of log entry 19 is half a unit below 2^53 units of the largest binade. -/
theorem ratio_lt_overflow_iff (num : Nat) {den : Nat} (hden : den ≠ 0) :
    (num : ℚ) / den < (2 ^ 53 - 1 / 2) * 2 ^ (971 : Int) ↔ num < (2 ^ 54 - 1) * 2 ^ 970 * den := by
  have hbound : (2 ^ 53 - 1 / 2) * (2 : ℚ) ^ (971 : Int) = (((2 ^ 54 - 1) * 2 ^ 970 : Nat) : ℚ) := by
    have hpow : (2 : ℚ) ^ (971 : Int) = 2 * 2 ^ 970 := (zpow_ofNat 2 971).trans (pow_succ' 2 970)
    have hcast : ((2 ^ 54 - 1 : Nat) : ℚ) = 2 ^ 54 - 1 := by norm_num
    rw [hpow, Nat.cast_mul, Nat.cast_pow, hcast, Nat.cast_ofNat, ← mul_assoc]
    congr 1
    norm_num
  rw [div_lt_iff₀ (by positivity), hbound, ← Nat.cast_mul, Nat.cast_lt]

/-- Below the overflow bound the pattern of the rounded ratio is that of a finite value. -/
theorem ratio_magnitude_lt {num den : Nat} (hnum : num ≠ 0) (hden : den ≠ 0)
    (h : (num : ℚ) / den < (2 ^ 53 - 1 / 2) * 2 ^ (971 : Int)) :
    (ratioUlp num den + 1074).toNat * 2 ^ 52 + ratioSignificand num den < infMagnitude := by
  have hq := ratioSignificand_le hnum hden
  have hu : ratioUlp num den ≤ 971 := by
    by_contra hlt
    have hratio := ulps_le_ratio hnum hden (by omega)
    have hpow : (2 : ℚ) ^ (971 + 1 : Int) ≤ 2 ^ ratioUlp num den := zpow_le_zpow_right₀ one_le_two (by omega)
    have hpos : (0 : ℚ) < 2 ^ (971 : Int) := by positivity
    rw [zpow_add_one₀ two_ne_zero] at hpow
    generalize (2 : ℚ) ^ (971 : Int) = p at h hpow hpos
    linarith
  unfold infMagnitude
  rcases hu.lt_or_eq with hu | hu
  · omega
  · have hq' : ratioSignificand num den ≤ 2 ^ 53 - 1 := by
      refine ratioSignificand_le_of_lt hden (h.trans_eq ?_)
      rw [hu]
      norm_num
    omega

/-- From the overflow bound on the pattern reaches that of infinity. -/
theorem infMagnitude_le_ratio_magnitude {num den : Nat} (hnum : num ≠ 0) (hden : den ≠ 0)
    (h : (2 ^ 53 - 1 / 2) * 2 ^ (971 : Int) ≤ (num : ℚ) / den) :
    infMagnitude ≤ (ratioUlp num den + 1074).toNat * 2 ^ 52 + ratioSignificand num den := by
  have hu : 971 ≤ ratioUlp num den := by
    by_contra hlt
    have hratio := ratio_lt_ulps hnum hden
    have hpow : (2 : ℚ) ^ (ratioUlp num den + 1) ≤ 2 ^ (971 : Int) := zpow_le_zpow_right₀ one_le_two (by omega)
    have hpos : (0 : ℚ) < 2 ^ (971 : Int) := by positivity
    rw [zpow_add_one₀ two_ne_zero] at hpow
    generalize (2 : ℚ) ^ (971 : Int) = p at h hpow hpos
    linarith
  unfold infMagnitude
  rcases hu.lt_or_eq with hu | hu
  · have hq := le_ratioSignificand hnum hden (by omega)
    omega
  · have hq : 2 ^ 53 ≤ ratioSignificand num den := by
      refine le_ratioSignificand_of_even hden (by norm_num) (le_trans (le_of_eq ?_) h)
      rw [← hu]
      norm_num
    omega

/-- The lowest bit of a pattern is the lowest bit of its significand. -/
theorem getLsbD_zero_of_even {k q : Nat} (hq : q % 2 = 0) :
    (signed64 false (k * 2 ^ 52 + q)).getLsbD 0 = false := by
  have heven : (k * 2 ^ 52 + q) % 2 = 0 := by omega
  simp only [signed64, BitVec.getLsbD_ofNat, Nat.testBit_zero]
  simpa using heven

/-- Below the overflow bound the pattern stands for `roundedRatio` and ends in the lowest bit of its significand. -/
theorem value64_roundRatio {num den : Nat} (hnum : num ≠ 0) (hden : den ≠ 0)
    (h : (num : ℚ) / den < (2 ^ 53 - 1 / 2) * 2 ^ (971 : Int)) :
    value64 (signed64 false (roundRatio num den)) = some (roundedRatio num den)
    ∧ (ratioSignificand num den % 2 = 0 → (signed64 false (roundRatio num den)).getLsbD 0 = false) := by
  have hM := ratio_magnitude_lt hnum hden h
  rw [roundRatio_eq_min den hnum, min_eq_left hM.le]
  exact ⟨value64_of_significand _ _ (ratioUlp_ge num den) (ratioSignificand_le hnum hden)
    (le_ratioSignificand hnum hden) hM, getLsbD_zero_of_even⟩

/-- Settles O45: `ratioSignificand_nearest_value` below the overflow bound, `infMagnitude_le_ratio_magnitude` from it on. -/
theorem roundingIsToNearest : Obligations.RoundingIsToNearest := by
  unfold Obligations.RoundingIsToNearest
  intro num den hden
  refine ⟨fun hlt => ?_, fun hle => ?_⟩
  · rcases eq_or_ne num 0 with rfl | hnum
    · have hzero : value64 (signed64 false 0) = some 0 := by decide +kernel
      refine ⟨0, hzero, fun y r _ => ⟨by simp, fun h hne => absurd ?_ hne⟩⟩
      simpa using h.symm
    · obtain ⟨hvalue, heven⟩ := value64_roundRatio hnum hden.ne' ((ratio_lt_overflow_iff num hden.ne').mpr hlt)
      refine ⟨_, hvalue, fun y r hr => ?_⟩
      obtain ⟨hnear, htie⟩ := ratioSignificand_nearest_value hnum hden.ne' hr
      exact ⟨hnear, fun h hne => heven (htie h hne)⟩
  · have hnum : num ≠ 0 := by
      rintro rfl
      have : 0 < (2 ^ 54 - 1) * 2 ^ 970 * den := by positivity
      omega
    have hbound := not_lt.mp (mt (ratio_lt_overflow_iff num hden.ne').mp hle.not_gt)
    rw [roundRatio_eq_min den hnum, min_eq_right (infMagnitude_le_ratio_magnitude hnum hden.ne' hbound)]

end Sys2Proof.Machine
end

section
/-! PROOFS. The invariant of the registers: O49 and O50. Each shared update keeps it under conditions that its callers meet,
and each agent's move is made of those updates. -/

namespace Sys2Proof.Machine

/-- What an idle block without an outstanding wait has still to meet. -/
theorem RegInv.of_idle {s : State} (hphase : s.phase = .idle) (hbusy : s.busy = false) (htimer : s.timer = none)
    (herr : s.err.toNat ≤ 4) (hvalid : s.rspValid ≠ 0 → s.err = 0)
    (hmask : s.rspValid = 0 ∨ s.rspValid = 0b111 ∨ s.rspValid = 0b001 ∨ s.rspValid = 0b010 ∨ s.rspValid = 0b100)
    (hxfer : s.err ≠ 1 → s.xferCode = 0)
    (hsession : s.initDone = false → s.cal = Vector.replicate 11 0 ∧ s.mode = 0 ∧ s.devAddr = 0) : RegInv s where
  idle_iff := by simp [hphase, hbusy]
  err_le := herr
  busy_clear := by simp [hbusy]
  valid_ok := fun h => ⟨hbusy, hvalid h⟩
  valid_mask := hmask
  xfer_transport := hxfer
  timer_temperature := by simp [htimer]
  timer_pressure := by simp [htimer]
  init_op := by simp [hphase, inInit]
  reading_op := by simp [hphase, inAcquisition]
  compute_op := by simp [hphase]
  no_session := hsession

/-- Settles O49: the state after reset is idle, with a clear status and no session. -/
theorem resetMeetsTheInvariant : Obligations.ResetMeetsTheInvariant :=
  .of_idle rfl rfl rfl (by decide) (fun _ => rfl) (.inl rfl) (fun _ => rfl) fun _ => ⟨rfl, rfl, rfl⟩

section
variable {s : State}

/-! Updates of items the invariant does not speak of. -/

protected theorem RegInv.popSchedule (h : RegInv s) : RegInv (popSchedule s) := { h with }

protected theorem RegInv.popHost (h : RegInv s) : RegInv (popHost s) := { h with }

protected theorem RegInv.seen (i : HostIndex) (v : Word64) (h : RegInv s) : RegInv (seen i v s) := { h with }

theorem RegInv.latchSample (ut : Half) (up : Triple) (h : RegInv s) : RegInv { s with utL := ut, upL := up } :=
  { h with }

protected theorem RegInv.busIssue (x : Transaction) (h : RegInv s) : RegInv (busIssue x s) := { h with }

protected theorem RegInv.writeResponse (r : Reading) (h : RegInv s) : RegInv (writeResponse r s) := { h with }

protected theorem RegInv.resetBlock (s : State) : RegInv (resetBlock s) := { resetMeetsTheInvariant with }

/-! Consequences. -/

theorem RegInv.busy_of_phase (h : RegInv s) (hp : s.phase ≠ .idle) : s.busy = true := by
  simpa [h.idle_iff] using hp

theorem RegInv.xferCode_eq_zero (h : RegInv s) (hp : s.phase ≠ .idle) : s.xferCode = 0 := by
  obtain ⟨-, -, hx, -⟩ := h.busy_clear (h.busy_of_phase hp)
  exact hx

/-- Only a WAIT phase has a wait outstanding (R199). -/
theorem RegInv.wait_of_timer (h : RegInv s) (hw : s.timer ≠ none) : s.phase = .tWait ∨ s.phase = .pWait := by
  obtain ⟨w, hw⟩ := Option.ne_none_iff_exists'.mp hw
  cases w with
  | temperature => exact .inl (h.timer_temperature hw)
  | pressure m => exact .inr (h.timer_pressure m hw).1

theorem RegInv.timer_eq_none {p : Phase} (h : RegInv s) (hp : s.phase = p) (hne : p ≠ .tWait ∧ p ≠ .pWait) :
    s.timer = none := by
  by_contra hw
  rcases h.wait_of_timer hw with ht | ht
  · exact hne.1 (hp.symm.trans ht)
  · exact hne.2 (hp.symm.trans ht)

theorem RegInv.timer_of_idle (h : RegInv s) (hb : s.busy = false) : s.timer = none :=
  h.timer_eq_none (h.idle_iff.mpr hb) (by simp)

/-! How an operation ends (R229, R256). -/

theorem OpError.code_le (e : OpError) : e.code.toNat ≤ 4 := by
  cases e <;> simp [OpError.code]

protected theorem RegInv.raise (e : OpError) (h : RegInv s) (hx : s.xferCode = 0) (ht : s.timer = none) :
    RegInv (raise e s) :=
  .of_idle rfl rfl ht (OpError.code_le e) (fun hv => absurd rfl hv) (.inl rfl)
    (fun he => by cases e <;> simp_all [OpError.code, OpError.xferCode]) h.no_session

theorem validMask_mem (op : HostOp) : validMask op = 0 ∨ validMask op = 0b111 ∨ validMask op = 0b001
    ∨ validMask op = 0b010 ∨ validMask op = 0b100 := by
  cases op <;> decide

protected theorem RegInv.completeOk (h : RegInv s) (hx : s.xferCode = 0) (ht : s.timer = none) :
    RegInv (completeOk s) :=
  .of_idle rfl rfl ht (Nat.zero_le 4) (fun _ => rfl) (validMask_mem s.curOp.op) (fun _ => hx) h.no_session

/-! How an operation starts and goes on (R190, R221, R223). -/

/-- The operation in CUR_OP may be in phase p: what the invariant asks of the phase of an operation in progress. -/
structure PhaseFits (p : Phase) (s : State) : Prop where
  running : p ≠ .idle
  init_op : inInit p = true → s.curOp.op = .init ∧ s.curOp.modeReq.toNat ≤ 3
  reading_op : inAcquisition p = true → isReading s.curOp.op = true ∧ s.initDone = true
  compute_op : p = .compute →
    (isReading s.curOp.op = true ∧ s.initDone = true) ∨ (s.curOp.op = .comp ∧ s.curOp.modeReq.toNat ≤ 3)

theorem phaseFits_of_init {p : Phase} (hp : inInit p = true) (hop : s.curOp.op = .init)
    (hm : s.curOp.modeReq.toNat ≤ 3) : PhaseFits p s := by
  constructor <;> cases p <;> simp_all [inInit, inAcquisition]

theorem phaseFits_of_reading {p : Phase} (hp : inAcquisition p = true ∨ p = .compute)
    (hop : isReading s.curOp.op = true) (hs : s.initDone = true) : PhaseFits p s := by
  constructor <;> cases p <;> simp_all [inInit, inAcquisition]

theorem phaseFits_of_comp (hop : s.curOp.op = .comp) (hm : s.curOp.modeReq.toNat ≤ 3) : PhaseFits .compute s := by
  constructor <;> simp_all [inInit, inAcquisition]

protected theorem RegInv.goto {p : Phase} (h : RegInv s) (hb : s.busy = true) (ht : s.timer = none)
    (hp : PhaseFits p s) : RegInv (goto p s) :=
  { h with
    idle_iff := by simp [hp.running, hb]
    timer_temperature := by simp [ht]
    timer_pressure := by simp [ht]
    init_op := hp.init_op
    reading_op := hp.reading_op
    compute_op := hp.compute_op }

/-- The next phase of an INIT. -/
theorem RegInv.goto_init {p : Phase} (h : RegInv s) (hs : inInit s.phase = true) (hp : inInit p = true) :
    RegInv (goto p s) := by
  obtain ⟨hop, hm⟩ := h.init_op hs
  have hb : s.phase ≠ .idle := by
    intro hc
    simp [hc, inInit] at hs
  have hw : s.phase ≠ .tWait ∧ s.phase ≠ .pWait := by
    constructor <;> intro hc <;> simp [hc, inInit] at hs
  exact h.goto (h.busy_of_phase hb) (h.timer_eq_none rfl hw) (phaseFits_of_init hp hop hm)

/-- The next phase of a reading. -/
theorem RegInv.goto_reading {p : Phase} (h : RegInv s) (hs : inAcquisition s.phase = true) (ht : s.timer = none)
    (hp : inAcquisition p = true ∨ p = .compute) : RegInv (goto p s) := by
  obtain ⟨hop, hi⟩ := h.reading_op hs
  have hidle : s.phase ≠ .idle := by
    intro hc
    simp [hc, inAcquisition] at hs
  exact h.goto (h.busy_of_phase hidle) ht (phaseFits_of_reading hp hop hi)

protected theorem RegInv.clearStatus (h : RegInv s) (hb : s.busy = false) : RegInv (clearStatus s) :=
  .of_idle (h.idle_iff.mpr hb) hb (h.timer_of_idle hb) (Nat.zero_le 4) (fun _ => rfl) (.inl rfl) (fun _ => rfl)
    h.no_session

/-! Acceptance (R221). -/

protected theorem RegInv.latchOp (c : CurOp) (h : RegInv s) (hb : s.busy = false) : RegInv (latchOp c s) :=
  .of_idle (h.idle_iff.mpr hb) hb (h.timer_of_idle hb) h.err_le (fun hv => (h.valid_ok hv).2) h.valid_mask
    h.xfer_transport h.no_session

/-- The status an acceptance has cleared, when it has latched the operation. -/
theorem RegInv.latchOp_clearStatus (c : CurOp) (h : RegInv s) (hb : s.busy = false) :
    RegInv (latchOp c (clearStatus s)) :=
  (h.clearStatus hb).latchOp c hb

protected theorem RegInv.startAt {p : Phase} (h : RegInv s) (hb : s.busy = false)
    (hclear : s.err = 0 ∧ s.errInfo = 0 ∧ s.xferCode = 0 ∧ s.rspValid = 0) (hp : PhaseFits p s) :
    RegInv (startAt p s) := by
  have htimer := h.timer_of_idle hb
  exact
  { h with
    idle_iff := by simp [hp.running]
    busy_clear := fun _ => hclear
    valid_ok := fun hv => absurd hclear.2.2.2 hv
    timer_temperature := by simp [htimer]
    timer_pressure := by simp [htimer]
    init_op := hp.init_op
    reading_op := hp.reading_op
    compute_op := hp.compute_op }

protected theorem RegInv.acceptInit (dev m : Byte) (h : RegInv s) (hb : s.busy = false) :
    RegInv (acceptInit dev m s) := by
  unfold acceptInit
  simp only
  split
  · exact (h.latchOp_clearStatus _ hb).raise _ rfl (h.timer_of_idle hb)
  · next hm =>
    exact (h.latchOp_clearStatus _ hb).startAt hb ⟨rfl, rfl, rfl, rfl⟩ (phaseFits_of_init rfl rfl (Nat.not_lt.mp hm))

protected theorem RegInv.acceptReading {op : HostOp} (hop : isReading op = true) (h : RegInv s)
    (hb : s.busy = false) : RegInv (acceptReading op s) := by
  unfold acceptReading
  simp only
  split
  · next hs =>
    exact (h.latchOp_clearStatus _ hb).startAt hb ⟨rfl, rfl, rfl, rfl⟩ (phaseFits_of_reading (.inl rfl) hop hs)
  · exact (h.latchOp_clearStatus _ hb).raise _ rfl (h.timer_of_idle hb)

protected theorem RegInv.acceptComp (ut : Half) (up : Triple) (m : Byte) (h : RegInv s) (hb : s.busy = false) :
    RegInv (acceptComp ut up m s) := by
  unfold acceptComp
  simp only
  split
  · exact (h.latchOp_clearStatus _ hb).raise _ rfl (h.timer_of_idle hb)
  · next hm =>
    have hc := h.latchOp_clearStatus { s.curOp with op := .comp, modeReq := m, ut := ut, up := up } hb
    exact (hc.latchSample ut up).startAt hb ⟨rfl, rfl, rfl, rfl⟩ (phaseFits_of_comp rfl (Nat.not_lt.mp hm))

protected theorem RegInv.acceptIllegal (op : BitVec 4) (h : RegInv s) (hb : s.busy = false) :
    RegInv (acceptIllegal op s) :=
  (h.clearStatus hb).raise _ rfl (h.timer_of_idle hb)

protected theorem RegInv.acceptMove (d : HostDecoded) (h : RegInv s) (hb : s.busy = false) :
    RegInv (acceptMove d s) := by
  cases d with
  | illegal op => exact h.acceptIllegal op hb
  | instr i =>
    cases i with
    | init dev m => exact h.acceptInit dev m hb
    | readc | gett | getp | geta => exact h.acceptReading rfl hb
    | comp ut up m => exact h.acceptComp ut up m hb
    | readTemp | readPressure m => exact h

/-! The agents' moves. -/

theorem RegInv.of_hostStep {t : State} (h : RegInv s) (ht : hostStep s = .next t) : RegInv t := by
  rcases hostStep_cases ht with ⟨-, rfl⟩ | ⟨w, rest, -, -, rfl⟩ | ⟨w, rest, -, hb, rfl⟩ | ⟨i, w, rest, -, -, rfl⟩
    | ⟨i, v, rest, -, -, rfl⟩ | ⟨rest, -, rfl⟩
  · exact h
  · exact h
  · exact h.popHost.acceptMove _ hb
  · exact h.popHost
  · exact h.popHost.seen i v
  · split
    · exact h.seen _ _
    · exact h.popHost.seen _ _

/-- The signal leaves no wait outstanding and moves on the phase that asked for it (R192, R196). -/
protected theorem RegInv.timerSignal (h : RegInv s) : RegInv (timerSignal s) := by
  cases hw : s.timer with
  | none => rwa [timerSignal_none hw]
  | some w =>
    rw [timerSignal_some hw]
    have hn : RegInv { s with timer := none } := { h with timer_temperature := nofun, timer_pressure := nofun }
    rcases h.wait_of_timer (by simp [hw]) with hp | hp
    · exact hn.goto_reading (by simp [hp, inAcquisition]) rfl (.inl (by simp [hp, afterWait, inAcquisition]))
    · exact hn.goto_reading (by simp [hp, inAcquisition]) rfl (.inl (by simp [hp, afterWait, inAcquisition]))

/-- A bus write of an operation in progress: silence changes nothing and an error ends the operation; what follows on ok is
the caller's. -/
protected theorem RegInv.busWriteOr {info dev reg value : Byte} {next : State → State} (h : RegInv s)
    (hp : s.phase ≠ .idle) (ht : s.timer = none)
    (hnext : RegInv (next (busIssue (.busWrite dev reg value) s))) :
    RegInv (busWriteOr info dev reg value next s) := by
  cases ha : busAnswer (.busWrite dev reg value) s with
  | none => rwa [busWriteOr_none ha]
  | some a =>
    cases a with
    | ok d0 d1 d2 => rwa [busWriteOr_ok ha]
    | error code =>
      rw [busWriteOr_error ha]
      exact (h.busIssue _).raise _ (h.xferCode_eq_zero hp) ht

protected theorem RegInv.busReadOr {info dev reg : Byte} {n : Nat} {next : Byte → Byte → Byte → State → State}
    (h : RegInv s) (hp : s.phase ≠ .idle) (ht : s.timer = none)
    (hnext : ∀ d0 d1 d2, RegInv (next d0 d1 d2 (busIssue (.busRead dev reg n) s))) :
    RegInv (busReadOr info dev reg n next s) := by
  cases ha : busAnswer (.busRead dev reg n) s with
  | none => rwa [busReadOr_none ha]
  | some a =>
    cases a with
    | ok d0 d1 d2 =>
      rw [busReadOr_ok ha]
      exact hnext d0 d1 d2
    | error code =>
      rw [busReadOr_error ha]
      exact (h.busIssue _).raise _ (h.xferCode_eq_zero hp) ht

theorem inInit_afterCalRd (i : Fin 11) : inInit (afterCalRd i) = true := by
  unfold afterCalRd
  split <;> rfl

protected theorem RegInv.stageCal (i : Fin 11) (v : Half) (h : RegInv s) (hp : inInit s.phase = true) :
    RegInv (stageCal i v s) :=
  RegInv.goto_init (s := { s with calStage := s.calStage.set i v }) { h with } hp (inInit_afterCalRd i)

protected theorem RegInv.calRd {i : Fin 11} (h : RegInv s) (hp : s.phase = .calRd i) : RegInv (calRd i s) := by
  have hinit : inInit s.phase = true := by simp [hp, inInit]
  cases ha : busAnswer (.busRead s.curOp.dev (calAddr i) 2) s with
  | none => rwa [calRd_none ha]
  | some a =>
    cases a with
    | ok d0 d1 d2 =>
      rw [calRd_ok ha]
      exact (h.busIssue _).stageCal i _ hinit
    | error code =>
      cases hpol : s.policy with
      | failFast =>
        rw [calRd_error_failFast ha hpol]
        exact (h.busIssue _).raise _ (h.xferCode_eq_zero (by simp [hp])) (h.timer_eq_none hp (by simp))
      | referenceZeroFill =>
        rw [calRd_error_zeroFill ha hpol]
        exact (h.busIssue _).stageCal i 0 hinit

/-- The commit makes a session, so nothing is asked of one that was not there before (R127). -/
protected theorem RegInv.calCommit (h : RegInv s) (hp : s.phase = .calCommit) : RegInv (calCommit s) := by
  have ht := h.timer_eq_none hp (by simp)
  have hx := h.xferCode_eq_zero (by simp [hp])
  exact .of_idle rfl rfl ht (Nat.zero_le 4) (fun _ => rfl) (validMask_mem s.curOp.op) (fun _ => hx) nofun

protected theorem RegInv.compute (h : RegInv s) (hp : s.phase = .compute) : RegInv (compute s) := by
  have ht := h.timer_eq_none hp (by simp)
  have hx := h.xferCode_eq_zero (by simp [hp])
  cases hr : pipe s.cal s.utL s.upL (computeMode s) with
  | ok r =>
    rw [compute_ok hr]
    exact (h.writeResponse r).completeOk hx ht
  | arithmeticError info =>
    rw [compute_error hr]
    exact h.raise _ hx ht

protected theorem RegInv.tCmd (h : RegInv s) (hp : s.phase = .tCmd) : RegInv (tCmd s) := by
  have ht := h.timer_eq_none hp (by simp)
  exact h.busWriteOr (by simp [hp]) ht ((h.busIssue _).goto_reading (by simp [hp, inAcquisition]) ht (.inl rfl))

protected theorem RegInv.pCmd (oss : BitVec 2) (h : RegInv s) (hp : s.phase = .pCmd) : RegInv (pCmd oss s) := by
  have ht := h.timer_eq_none hp (by simp)
  exact h.busWriteOr (by simp [hp]) ht ((h.busIssue _).goto_reading (by simp [hp, inAcquisition]) ht (.inl rfl))

protected theorem RegInv.tRd (h : RegInv s) (hp : s.phase = .tRd) : RegInv (tRd s) := by
  have ht := h.timer_eq_none hp (by simp)
  exact h.busReadOr (by simp [hp]) ht fun _ _ _ =>
    ((h.busIssue _).latchSample _ _).goto_reading (by simp [hp, inAcquisition]) ht (.inl rfl)

protected theorem RegInv.pRd (h : RegInv s) (hp : s.phase = .pRd) : RegInv (pRd s) := by
  have ht := h.timer_eq_none hp (by simp)
  exact h.busReadOr (by simp [hp]) ht fun _ _ _ =>
    ((h.busIssue _).latchSample _ _).goto_reading (by simp [hp, inAcquisition]) ht (.inr rfl)

protected theorem RegInv.tWait (h : RegInv s) (hp : s.phase = .tWait) : RegInv (tWait s) := by
  cases hw : s.timer with
  | none =>
    rw [tWait, waitFor_first hw]
    exact { h with timer_temperature := fun _ => hp, timer_pressure := nofun }
  | some v => rwa [tWait, waitFor_again hw]

protected theorem RegInv.pWait (h : RegInv s) (hp : s.phase = .pWait) : RegInv (pWait s) := by
  cases hw : s.timer with
  | none =>
    rw [pWait, waitFor_first hw]
    exact { h with timer_temperature := nofun, timer_pressure := by simp [hp] }
  | some v => rwa [pWait, waitFor_again hw]

protected theorem RegInv.blockMove (h : RegInv s) : RegInv (blockMove s) := by
  unfold blockMove
  split
  next hp => exact h
  next i hp => exact h.calRd hp
  next hp => exact h.calCommit hp
  next hp => exact h.tCmd hp
  next hp => exact h.tWait hp
  next hp => exact h.tRd hp
  next hp => exact h.pCmd _ hp
  next hp => exact h.pWait hp
  next hp => exact h.pRd hp
  next hp => exact h.compute hp

end

/-- Settles O50: each agent's move keeps the invariant, and the schedule is no part of it. -/
theorem stepKeepsTheInvariant : Obligations.StepKeepsTheInvariant := by
  unfold Obligations.StepKeepsTheInvariant
  intro s t h hst
  rcases step_cases hst with ⟨-, ht⟩ | ⟨-, rfl⟩ | ⟨-, rfl⟩ | ⟨-, rfl⟩
  · exact h.popSchedule.of_hostStep ht
  · exact h.popSchedule.blockMove
  · exact h.popSchedule.timerSignal
  · exact .resetBlock _

end Sys2Proof.Machine
end

section
/-! PROOFS. What no instruction writes: O18. The items are gathered in one tuple, so that the frame of an update is one
equation. -/

namespace Sys2Proof.Machine

/-- The items that no instruction writes, in one tuple. -/
def untouched (s : State) :=
  (s.cal, s.mode, s.devAddr, s.initDone, s.calStage, s.rspT10, s.rspTemp, s.rspPress, s.rspAlt, s.policy, s.timer,
    s.host, s.hostSeen, s.busSilent, s.schedule, s.afterSchedule)

@[simp] theorem untouched_clearStatus (s : State) : untouched (clearStatus s) = untouched s := rfl
@[simp] theorem untouched_latchOp (c : CurOp) (s : State) : untouched (latchOp c s) = untouched s := rfl
@[simp] theorem untouched_startAt (p : Phase) (s : State) : untouched (startAt p s) = untouched s := rfl
@[simp] theorem untouched_goto (p : Phase) (s : State) : untouched (goto p s) = untouched s := rfl
@[simp] theorem untouched_raise (e : OpError) (s : State) : untouched (raise e s) = untouched s := rfl
@[simp] theorem untouched_busIssue (x : Transaction) (s : State) : untouched (busIssue x s) = untouched s := rfl

theorem untouched_busWriteOr {info dev reg value : Byte} {next : State → State}
    (hnext : ∀ s, untouched (next s) = untouched s) (s : State) :
    untouched (busWriteOr info dev reg value next s) = untouched s := by
  unfold busWriteOr
  split
  · rfl
  · exact hnext _
  · rfl

theorem untouched_acceptInit (dev m : Byte) (s : State) : untouched (acceptInit dev m s) = untouched s := by
  unfold acceptInit
  simp only
  split <;> rfl

theorem untouched_acceptReading (op : HostOp) (s : State) : untouched (acceptReading op s) = untouched s := by
  unfold acceptReading
  simp only
  split <;> rfl

theorem untouched_acceptComp (ut : Half) (up : Triple) (m : Byte) (s : State) :
    untouched (acceptComp ut up m s) = untouched s := by
  unfold acceptComp
  simp only
  split <;> rfl

theorem untouched_tCmd (s : State) : untouched (tCmd s) = untouched s := untouched_busWriteOr (untouched_goto _) s

theorem untouched_pCmd (oss : BitVec 2) (s : State) : untouched (pCmd oss s) = untouched s :=
  untouched_busWriteOr (untouched_goto _) s

/-- A held command changes nothing, an accepted one what its acceptance changes (R220). -/
theorem untouched_of_whenIdle {accept : State → State} {s t : State} (haccept : untouched (accept s) = untouched s)
    (h : whenIdle accept s = .next t) : untouched t = untouched s := by
  cases hb : s.busy with
  | true =>
    obtain rfl := Host.Outcome.next.inj ((whenIdle_busy hb).symm.trans h)
    rfl
  | false =>
    obtain rfl := Host.Outcome.next.inj ((whenIdle_idle hb).symm.trans h)
    exact haccept

theorem untouched_of_exec {i : Instr} {s t : State} (h : exec i s = .next t) : untouched t = untouched s := by
  cases i with
  | init dev m => exact untouched_of_whenIdle (untouched_acceptInit dev m s) h
  | readc | gett | getp | geta => exact untouched_of_whenIdle (untouched_acceptReading _ s) h
  | comp ut up m => exact untouched_of_whenIdle (untouched_acceptComp ut up m s) h
  | readTemp =>
    obtain rfl := Host.Outcome.next.inj h
    split
    · exact untouched_tCmd s
    · rfl
  | readPressure oss =>
    obtain rfl := Host.Outcome.next.inj h
    split
    · exact untouched_pCmd oss s
    · rfl

/-- Settles O18: item by item of `untouched_of_exec`. -/
theorem instructionFrame : Obligations.InstructionFrame := by
  unfold Obligations.InstructionFrame
  intro i s t h
  simpa only [untouched, Prod.mk.injEq] using untouched_of_exec h

end Sys2Proof.Machine
end

section
/-! PROOFS. CONFIG and the load-policy strap: O31. Every agent's move leaves the strap. -/

namespace Sys2Proof.Machine

theorem untouched_acceptMove (d : HostDecoded) (s : State) : untouched (acceptMove d s) = untouched s := by
  cases d with
  | illegal op => rfl
  | instr i =>
    cases i with
    | init dev m => exact untouched_acceptInit dev m s
    | readc | gett | getp | geta => exact untouched_acceptReading _ s
    | comp ut up m => exact untouched_acceptComp ut up m s
    | readTemp | readPressure m => rfl

theorem policy_of_untouched {s t : State} (h : untouched t = untouched s) : t.policy = s.policy := by
  simp only [untouched, Prod.mk.injEq] at h
  tauto

theorem busReadOr_policy {info dev reg : Byte} {n : Nat} {next : Byte → Byte → Byte → State → State}
    (hnext : ∀ d0 d1 d2 s, (next d0 d1 d2 s).policy = s.policy) (s : State) :
    (busReadOr info dev reg n next s).policy = s.policy := by
  unfold busReadOr
  split
  · rfl
  · exact hnext _ _ _ _
  · rfl

theorem calRd_policy (i : Fin 11) (s : State) : (calRd i s).policy = s.policy := by
  unfold calRd
  split
  · rfl
  · rfl
  · split <;> rfl

theorem waitFor_policy (w : WaitKind) (s : State) : (waitFor w s).policy = s.policy := by
  unfold waitFor
  split <;> rfl

theorem timerSignal_policy (s : State) : (timerSignal s).policy = s.policy := by
  unfold timerSignal
  split <;> rfl

theorem compute_policy (s : State) : (compute s).policy = s.policy := by
  unfold compute
  split <;> rfl

theorem tRd_policy (s : State) : (tRd s).policy = s.policy := by
  refine busReadOr_policy (fun d0 d1 d2 u => ?_) s
  rfl

theorem pRd_policy (s : State) : (pRd s).policy = s.policy := by
  refine busReadOr_policy (fun d0 d1 d2 u => ?_) s
  rfl

theorem blockMove_policy (s : State) : (blockMove s).policy = s.policy := by
  unfold blockMove
  split
  · rfl
  · exact calRd_policy _ s
  · rfl
  · exact policy_of_untouched (untouched_tCmd s)
  · exact waitFor_policy _ s
  · exact tRd_policy s
  · exact policy_of_untouched (untouched_pCmd _ s)
  · exact waitFor_policy _ s
  · exact pRd_policy s
  · exact compute_policy s

theorem hostStep_policy {s t : State} (h : hostStep s = .next t) : t.policy = s.policy := by
  rcases hostStep_cases h with ⟨-, rfl⟩ | ⟨w, rest, -, -, rfl⟩ | ⟨w, rest, -, -, rfl⟩ | ⟨i, w, rest, -, -, rfl⟩
    | ⟨i, v, rest, -, -, rfl⟩ | ⟨rest, -, rfl⟩
  · rfl
  · rfl
  · exact (policy_of_untouched (untouched_acceptMove _ (popHost s))).trans (popHost_policy s)
  · rfl
  · rfl
  · split <;> rfl

theorem step_policy {s t : State} (h : step s = .next t) : t.policy = s.policy := by
  rcases step_cases h with ⟨-, ht⟩ | ⟨-, rfl⟩ | ⟨-, rfl⟩ | ⟨-, rfl⟩
  · exact (hostStep_policy ht).trans (popSchedule_policy s)
  · exact (blockMove_policy _).trans (popSchedule_policy s)
  · exact (timerSignal_policy _).trans (popSchedule_policy s)
  · rfl

/-- The fields of R43, each cut out of the concatenation. -/
theorem configWord_fields (s : State) :
    (configWord s).extractLsb' 0 2 = s.mode ∧ (configWord s).extractLsb' 2 6 = 0
    ∧ (configWord s).extractLsb' 8 8 = s.devAddr ∧ (configWord s).getLsbD 16 = (s.policy == .referenceZeroFill)
    ∧ (configWord s).extractLsb' 17 47 = 0 := by
  unfold configWord
  simp (disch := omega) only [BitVec.extractLsb'_append_eq_of_add_le, BitVec.extractLsb'_append_eq_of_le,
    BitVec.getLsbD_append]
  cases s.policy <;> simp [policyBit]

/-- Settles O31: the fields by `configWord_fields`, the strap agent by agent. -/
theorem configWordLayoutAndStrap : Obligations.ConfigWordLayoutAndStrap :=
  ⟨fun s => ⟨configWord s, rfl, configWord_fields s⟩, fun _ _ => step_policy⟩

end Sys2Proof.Machine
end

section
/-! PROOFS. R23: no step of the pipeline reads MB, and O42. -/

namespace Sys2Proof.Machine

theorem calValue_set_of_ne {i j : Fin 11} (hij : i ≠ j) (cal : CalFile) (v : Half) :
    calValue (cal.set j v) i = calValue cal i := by
  have hget : (cal.set j v)[i] = cal[i] := Vector.getElem_set_ne _ _ (by simpa [Fin.ext_iff] using hij.symm)
  simp only [calValue, hget]

/-- CAL[8] is MB, and no other constant. -/
theorem constants_set_mb (cal : CalFile) (v : Half) :
    constants (cal.set 8 v) = { constants cal with mb := calValue (cal.set 8 v) 8 } := by
  have h {i : Fin 11} (hi : i ≠ 8) : calValue (cal.set 8 v) i = calValue cal i := calValue_set_of_ne hi cal v
  simp only [constants]
  rw [h (i := 0) (by decide), h (i := 1) (by decide), h (i := 2) (by decide), h (i := 3) (by decide),
    h (i := 4) (by decide), h (i := 5) (by decide), h (i := 6) (by decide), h (i := 7) (by decide),
    h (i := 9) (by decide), h (i := 10) (by decide)]

theorem valDEN_mb (k : Constants) (mb ut : Int) : valDEN { k with mb := mb } ut = valDEN k ut := rfl
theorem valB4_mb (k : Constants) (mb ut : Int) : valB4 { k with mb := mb } ut = valB4 k ut := rfl
theorem valT10_mb (k : Constants) (mb ut : Int) : valT10 { k with mb := mb } ut = valT10 k ut := rfl
theorem valPRESS_mb (k : Constants) (mb ut up : Int) (mode : Nat) :
    valPRESS { k with mb := mb } ut up mode = valPRESS k ut up mode := rfl

section
variable {cal : CalFile} {ut : Half} {up : Triple} {m : BitVec 2}

theorem pipe_temperatureDivisor (hden : valDEN (constants cal) ut.toNat = 0) :
    pipe cal ut up m = .arithmeticError 0x01 :=
  if_pos hden

theorem pipe_pressureDivisor (hden : valDEN (constants cal) ut.toNat ≠ 0) (hb4 : valB4 (constants cal) ut.toNat = 0) :
    pipe cal ut up m = .arithmeticError 0x02 :=
  (if_neg hden).trans (if_pos hb4)

theorem pipe_ok (hden : valDEN (constants cal) ut.toNat ≠ 0) (hb4 : valB4 (constants cal) ut.toNat ≠ 0) :
    pipe cal ut up m = .ok
      { t10 := BitVec.ofInt 32 (valT10 (constants cal) ut.toNat)
        tempC := stepTempC (valT10 (constants cal) ut.toNat)
        press := BitVec.ofInt 32 (valPRESS (constants cal) ut.toNat up.toNat m.toNat)
        alt := stepALT (valPRESS (constants cal) ut.toNat up.toNat m.toNat) } :=
  (if_neg hden).trans (if_neg hb4)

end

/-- Settles O42: PIPE is one of three results of DEN, B4, T10 and PRESS, and none of these reads MB. -/
theorem pipelineIgnoresMB : Obligations.PipelineIgnoresMB := by
  unfold Obligations.PipelineIgnoresMB
  intro cal mb ut up m
  have hden : valDEN (constants (cal.set 8 mb)) ut.toNat = valDEN (constants cal) ut.toNat := by
    rw [constants_set_mb, valDEN_mb]
  have hb4 : valB4 (constants (cal.set 8 mb)) ut.toNat = valB4 (constants cal) ut.toNat := by
    rw [constants_set_mb, valB4_mb]
  by_cases hd : valDEN (constants cal) ut.toNat = 0
  · rw [pipe_temperatureDivisor hd, pipe_temperatureDivisor (hden.trans hd)]
  · by_cases hb : valB4 (constants cal) ut.toNat = 0
    · rw [pipe_pressureDivisor hd hb, pipe_pressureDivisor (hden.trans_ne hd) (hb4.trans hb)]
    · rw [pipe_ok hd hb, pipe_ok (hden.trans_ne hd) (hb4.trans_ne hb), constants_set_mb, valT10_mb, valPRESS_mb]

end Sys2Proof.Machine
end

section
/-! PROOFS. The word `withFetchWord` places: O10 (log entry 12). -/

namespace Sys2Proof.Machine

/-- The bytes that decode are those the block emits (R100, R101). -/
theorem decodeScmd_eq_instr {b : Byte} {i : Instr} (h : decodeScmd b = .instr i) :
    (b = 0x2E ∧ i = .readTemp) ∨ ∃ m, b = readPressureByte m ∧ i = .readPressure m := by
  unfold decodeScmd at h
  split at h
  · next hb => exact .inl ⟨hb, (SensorDecoded.instr.inj h).symm⟩
  · split at h
    · next hb =>
      have hbyte : ∀ c : Byte, c.extractLsb' 0 6 = 0x34#6 → c = readPressureByte (c.extractLsb' 6 2) := by decide
      exact .inr ⟨_, hbyte b hb, (SensorDecoded.instr.inj h).symm⟩
    · cases h

theorem fetch_placeHostCommand (w : Word64) (s : State) : fetch (placeHostCommand w s) = some (.host w) := rfl

/-- A decoded sensor command, placed, is fetched as its own byte. -/
theorem fetch_placeSensorCommand {b : Byte} {i : Instr} (h : decodeScmd b = .instr i) (s : State) :
    fetch (placeSensorCommand i s) = some (.sensor b) := by
  rcases decodeScmd_eq_instr h with ⟨rfl, rfl⟩ | ⟨m, rfl, rfl⟩ <;> rfl

theorem decodeTableWord_byte {w : Nat} {i : Instr} (h : decodeTableWord 8 w = some i) :
    decodeScmd (BitVec.ofNat 8 w) = .instr i := by
  simp only [decodeTableWord, decode, le_refl, if_true] at h
  split at h
  · next j hj => rw [hj, Option.some.inj h]
  · cases h

/-- Settles O10: a wide word is placed as a host command, a byte as the sensor command it decodes to. -/
theorem placedWordIsFetched : Obligations.PlacedWordIsFetched := by
  unfold Obligations.PlacedWordIsFetched
  refine ⟨fun s w => fetch_placeHostCommand _ s, fun s w i _ h => ?_⟩
  have hd := decodeTableWord_byte h
  simp only [State.withFetchWord, placeTableWord, le_refl, if_true, hd]
  exact fetch_placeSensorCommand hd s

end Sys2Proof.Machine
end

section
/-! PROOFS. The host register file: the map of its indices (O28), STATUS, PHASE and CALV (O29, O30, O32), the host's reads
and writes (O33, O34), and what it reads after reset (O36). -/

namespace Sys2Proof.Machine

/-! The map (R41). -/

theorem regAt_calv (i : Fin 11) : regAt (BitVec.ofNat 5 (0x10 + i.val)) = some (.calv i) := by
  revert i
  decide

theorem regAt_eq_none_iff (j : HostIndex) : regAt j = none ↔ (0x08 ≤ j.toNat ∧ j.toNat ≤ 0x0F) ∨ 0x1B ≤ j.toNat := by
  revert j
  decide

/-- An index is reserved or one of 0x00 to 0x07 and 0x10 to 0x1A. -/
theorem regAt_ne_none {j : HostIndex} (h : j.toNat ≤ 7 ∨ (0x10 ≤ j.toNat ∧ j.toNat ≤ 0x1A)) : regAt j ≠ none := by
  rw [Ne, regAt_eq_none_iff]
  omega

/-- Settles O28: the eight named indices by evaluation, the constants and the reserved ones by their lemmas. -/
theorem registerMap : Obligations.RegisterMap :=
  ⟨rfl, rfl, rfl, rfl, rfl, rfl, rfl, rfl, regAt_calv, regAt_eq_none_iff⟩

/-! The encoding of PHASE (R28). -/

/-- The phase a number of R28 stands for. -/
def phaseAt (b : Byte) : Phase :=
  if h : 0 < b.toNat ∧ b.toNat - 1 < 11 then .calRd ⟨b.toNat - 1, h.2⟩
  else if b = 0x0C then .calCommit
  else if b = 0x10 then .tCmd
  else if b = 0x11 then .tWait
  else if b = 0x12 then .tRd
  else if b = 0x13 then .pCmd
  else if b = 0x14 then .pWait
  else if b = 0x15 then .pRd
  else if b = 0x18 then .compute
  else .idle

theorem phaseAt_phaseCode (p : Phase) : phaseAt (phaseCode p) = p := by
  cases p with
  | calRd i => revert i; decide
  | idle | calCommit | tCmd | tWait | tRd | pCmd | pWait | pRd | compute => rfl

theorem phaseCode_injective : Function.Injective phaseCode := Function.LeftInverse.injective phaseAt_phaseCode

/-- Settles O30: `phaseAt` reads the phase back from its number. -/
theorem phaseEncoding : Obligations.PhaseEncoding :=
  ⟨rfl, by decide, rfl, rfl, rfl, rfl, rfl, rfl, rfl, rfl, fun _ _ h => phaseCode_injective h⟩

/-! What each index reads (R42 to R45). -/

@[simp] theorem readReg_cmd (s : State) : readReg 0x00 s = .value 0 := rfl
@[simp] theorem readReg_status (s : State) : readReg 0x01 s = .value (statusWord s) := rfl
@[simp] theorem readReg_config (s : State) : readReg 0x02 s = .value (configWord s) := rfl
@[simp] theorem readReg_xfer (s : State) : readReg 0x03 s = .value s.xferCode := rfl
@[simp] theorem readReg_t10 (s : State) :
    readReg 0x04 s = readIfValid (s.rspValid.getLsbD 0) (s.rspT10.signExtend 64) := rfl
@[simp] theorem readReg_temp (s : State) : readReg 0x05 s = readIfValid (s.rspValid.getLsbD 0) s.rspTemp := rfl
@[simp] theorem readReg_press (s : State) :
    readReg 0x06 s = readIfValid (s.rspValid.getLsbD 1) (s.rspPress.setWidth 64) := rfl
@[simp] theorem readReg_alt (s : State) : readReg 0x07 s = readIfValid (s.rspValid.getLsbD 2) s.rspAlt := rfl

/-- R44: the numeric value of CAL[i] as a 64-bit pattern. -/
def calvWord (i : Fin 11) (s : State) : Word64 :=
  if calSigned i then s.cal[i].signExtend 64 else s.cal[i].setWidth 64

@[simp] theorem readReg_calv (i : Fin 11) (s : State) :
    readReg (BitVec.ofNat 5 (0x10 + i.val)) s = .value (calvWord i s) := by
  simp only [readReg, regAt_calv, calvWord]

theorem readReg_reserved {j : HostIndex} (h : regAt j = none) (s : State) : readReg j s = .reserved := by
  simp only [readReg, h]

theorem readIfValid_eq_value {valid : Bool} {v w : Word64} (h : readIfValid valid v = .value w) : w = v := by
  cases valid with
  | true => exact (ReadResult.value.inj h).symm
  | false => cases h

/-- The single bits of R42. -/
theorem statusWord_bits (s : State) :
    (statusWord s).getLsbD 0 = s.busy ∧ (statusWord s).getLsbD 1 = s.initDone ∧ (statusWord s).getLsbD 7 = false := by
  unfold statusWord
  simp only [BitVec.getLsbD_append]
  simp

/-- The fields of R42, each cut out of the concatenation. -/
theorem statusWord_fields (s : State) :
    (statusWord s).extractLsb' 2 2 = 0 ∧ (statusWord s).extractLsb' 4 3 = s.rspValid
    ∧ (statusWord s).extractLsb' 8 4 = s.err ∧ (statusWord s).extractLsb' 12 4 = 0
    ∧ (statusWord s).extractLsb' 16 8 = s.errInfo ∧ (statusWord s).extractLsb' 24 8 = phaseCode s.phase
    ∧ (statusWord s).extractLsb' 32 32 = 0 := by
  unfold statusWord
  simp (disch := omega) only [BitVec.extractLsb'_append_eq_of_add_le, BitVec.extractLsb'_append_eq_of_le]
  simp

theorem calSigned_eq_false_iff (i : Fin 11) : calSigned i = false ↔ i.val = 3 ∨ i.val = 4 ∨ i.val = 5 := by
  revert i
  decide

/-- Bits 15:0 are the pattern itself, whichever way it was widened. -/
theorem calvWord_low (i : Fin 11) (s : State) : (calvWord i s).extractLsb' 0 16 = s.cal[i] := by
  refine BitVec.eq_of_getLsbD_eq fun n hn => ?_
  have hn' : n < 64 := by omega
  unfold calvWord
  split
  · simp only [BitVec.getLsbD_extractLsb', BitVec.getLsbD_signExtend, Nat.zero_add, hn, hn', decide_true,
      Bool.true_and, if_true]
  · simp only [BitVec.getLsbD_extractLsb', BitVec.getLsbD_setWidth, Nat.zero_add, hn, hn', decide_true, Bool.true_and]

theorem toInt_setWidth64 (h : Half) : (h.setWidth 64).toInt = h.toNat := by
  have hnat : (h.setWidth 64).toNat = h.toNat := BitVec.toNat_setWidth_of_le (by decide)
  rw [BitVec.toInt_eq_toNat_of_lt (by omega), hnat]

theorem calvWord_toInt (i : Fin 11) (s : State) :
    (calvWord i s).toInt
      = if i.val = 3 ∨ i.val = 4 ∨ i.val = 5 then (s.cal[i].toNat : Int) else s.cal[i].toInt := by
  unfold calvWord
  simp only [← calSigned_eq_false_iff]
  cases calSigned i with
  | true => exact BitVec.toInt_signExtend_of_le (by decide)
  | false => exact toInt_setWidth64 s.cal[i]

/-- Settles O32: sign or zero extension by `calSigned`, which names AC4, AC5 and AC6. -/
theorem calvReadsTheNumericValue : Obligations.CalvReadsTheNumericValue :=
  fun s i => ⟨calvWord i s, readReg_calv i s, calvWord_low i s, calvWord_toInt i s⟩

/-! The host's turn (R45, R46). -/

theorem step_hostRead {s : State} {j : HostIndex} {rest : List HostAccess} (hn : nextAgent s = .host)
    (hh : s.host = .read j :: rest) : step s = hostReadStep j (popSchedule s) := by
  have hp : (popSchedule s).host = .read j :: rest := hh
  rw [step, hn, runAgent, hostStep, hp]

theorem step_hostWrite {s : State} {j : HostIndex} {w : Word64} {rest : List HostAccess} (hn : nextAgent s = .host)
    (hh : s.host = .write j w :: rest) :
    step s = if j = 0 then hostCommandStep w (popSchedule s) else hostOtherWriteStep j (popSchedule s) := by
  have hp : (popSchedule s).host = .write j w :: rest := hh
  rw [step, hn, runAgent, hostStep, hp]
  rfl

/-- What a turn leaves when it only ends the host's access. -/
theorem popHost_popSchedule {s : State} {a : HostAccess} {rest : List HostAccess} (hh : s.host = a :: rest) :
    popHost (popSchedule s) = { s with schedule := s.schedule.tail, host := rest } := by
  simp [popHost, popSchedule, hh]

theorem step_hostRead_value {s : State} {j : HostIndex} {rest : List HostAccess} {v : Word64}
    (hn : nextAgent s = .host) (hh : s.host = .read j :: rest) (hv : readReg j s = .value v) :
    step s = .next { s with schedule := s.schedule.tail, host := rest, hostSeen := (j, v) :: s.hostSeen } := by
  have hv' : readReg j (popSchedule s) = .value v := hv
  rw [step_hostRead hn hh, hostReadStep, hv']
  simp only [popHost_popSchedule hh, seen]

theorem step_hostRead_noValue {s : State} {j : HostIndex} {rest : List HostAccess}
    (hn : nextAgent s = .host) (hh : s.host = .read j :: rest) (hv : readReg j s = .noValue) :
    step s = .fault (.invalidResponse j) := by
  have hv' : readReg j (popSchedule s) = .noValue := hv
  rw [step_hostRead hn hh, hostReadStep, hv']

theorem step_hostRead_reserved {s : State} {j : HostIndex} {rest : List HostAccess}
    (hn : nextAgent s = .host) (hh : s.host = .read j :: rest) (hj : regAt j = none) :
    step s = .refused (.reservedRead j) := by
  rw [step_hostRead hn hh, hostReadStep, readReg_reserved hj]

theorem step_hostWrite_other {s : State} {j : HostIndex} {w : Word64} {rest : List HostAccess}
    (hn : nextAgent s = .host) (hh : s.host = .write j w :: rest) (h0 : j ≠ 0) (hj : regAt j ≠ none) :
    step s = .next { s with schedule := s.schedule.tail, host := rest } := by
  obtain ⟨r, hr⟩ := Option.ne_none_iff_exists'.mp hj
  rw [step_hostWrite hn hh, if_neg h0, hostOtherWriteStep, hr, ← popHost_popSchedule hh]

theorem step_hostWrite_reserved {s : State} {j : HostIndex} {w : Word64} {rest : List HostAccess}
    (hn : nextAgent s = .host) (hh : s.host = .write j w :: rest) (h0 : j ≠ 0) (hj : regAt j = none) :
    step s = .refused (.reservedWrite j) := by
  rw [step_hostWrite hn hh, if_neg h0, hostOtherWriteStep, hj]

/-- An idle block runs the instruction that the word written to CMD decodes to. -/
theorem hostCommandStep_exec {s : State} {w : Word64} {i : Instr} (hb : s.busy = false)
    (hd : decode (.host w) = some i) : hostCommandStep w s = exec i (popHost s) := by
  have hw : decodeHcmd w = .instr i := by
    simp only [decode] at hd
    split at hd
    · next hj => rw [hj, Option.some.inj hd]
    · cases hd
  simp [hostCommandStep, hb, hw]

/-- Settles O29: STATUS is mapped and is not CMD; its bits and fields by `statusWord_bits` and `statusWord_fields`. -/
theorem statusWordLayout : Obligations.StatusWordLayout := by
  unfold Obligations.StatusWordLayout
  refine ⟨fun _ _ _ hn hh => step_hostWrite_other hn hh (by decide) (by decide), fun s => ?_⟩
  obtain ⟨hbusy, hinit, h7⟩ := statusWord_bits s
  obtain ⟨h2, hvalid, herr, h12, hinfo, hphase, h32⟩ := statusWord_fields s
  exact ⟨statusWord s, readReg_status s, hbusy, hinit, h2, hvalid, h7, herr, h12, hinfo, hphase, h32⟩

theorem readReg_isValue {s : State} {j : HostIndex}
    (h : j.toNat ≤ 3 ∨ (0x10 ≤ j.toNat ∧ j.toNat ≤ 0x1A)
      ∨ ((j = 0x04 ∨ j = 0x05) ∧ s.rspValid.getLsbD 0 = true)
      ∨ (j = 0x06 ∧ s.rspValid.getLsbD 1 = true) ∨ (j = 0x07 ∧ s.rspValid.getLsbD 2 = true)) :
    ∃ v, readReg j s = .value v := by
  rcases h with hj | ⟨hlo, hhi⟩ | ⟨rfl | rfl, hv⟩ | ⟨rfl, hv⟩ | ⟨rfl, hv⟩
  · have hcases : j = 0x00 ∨ j = 0x01 ∨ j = 0x02 ∨ j = 0x03 := by bv_omega
    rcases hcases with rfl | rfl | rfl | rfl <;> exact ⟨_, rfl⟩
  · have hi : j = BitVec.ofNat 5 (0x10 + (⟨j.toNat - 0x10, by omega⟩ : Fin 11).val) := by
      apply BitVec.eq_of_toNat_eq
      simp
      omega
    rw [hi]
    exact ⟨_, readReg_calv _ s⟩
  · exact ⟨_, by rw [readReg_t10, hv]; rfl⟩
  · exact ⟨_, by rw [readReg_temp, hv]; rfl⟩
  · exact ⟨_, by rw [readReg_press, hv]; rfl⟩
  · exact ⟨_, by rw [readReg_alt, hv]; rfl⟩

theorem readReg_noValue {s : State} {j : HostIndex}
    (h : (j = 0x04 ∨ j = 0x05) ∧ s.rspValid.getLsbD 0 = false ∨ j = 0x06 ∧ s.rspValid.getLsbD 1 = false
      ∨ j = 0x07 ∧ s.rspValid.getLsbD 2 = false) : readReg j s = .noValue := by
  rcases h with ⟨rfl | rfl, hv⟩ | ⟨rfl, hv⟩ | ⟨rfl, hv⟩
  · rw [readReg_t10, hv]; rfl
  · rw [readReg_temp, hv]; rfl
  · rw [readReg_press, hv]; rfl
  · rw [readReg_alt, hv]; rfl

/-- The value that a read of CMD, XFER or a response register returns (R34, R36 to R39, R41). -/
theorem readReg_value {s : State} {j : HostIndex} {v : Word64} (h : readReg j s = .value v) :
    (j = 0x00 → v = 0) ∧ (j = 0x03 → v = s.xferCode) ∧ (j = 0x04 → v.toInt = s.rspT10.toInt)
    ∧ (j = 0x05 → v = s.rspTemp) ∧ (j = 0x06 → v.toNat = s.rspPress.toNat) ∧ (j = 0x07 → v = s.rspAlt) := by
  refine ⟨?_, ?_, ?_, ?_, ?_, ?_⟩ <;> rintro rfl
  · exact (ReadResult.value.inj h).symm
  · exact (ReadResult.value.inj h).symm
  · rw [readIfValid_eq_value h]
    exact BitVec.toInt_signExtend_of_le (by decide)
  · exact readIfValid_eq_value h
  · rw [readIfValid_eq_value h]
    exact BitVec.toNat_setWidth_of_le (by decide)
  · exact readIfValid_eq_value h

/-- Settles O33: the three results of `readReg`, and the host's turn on each. -/
theorem hostReadReturnsOrStops : Obligations.HostReadReturnsOrStops := by
  unfold Obligations.HostReadReturnsOrStops
  intro s j rest hn hh
  refine ⟨fun hj => ?_, fun hj => step_hostRead_noValue hn hh (readReg_noValue hj),
    fun hj => step_hostRead_reserved hn hh ((regAt_eq_none_iff j).mpr hj)⟩
  obtain ⟨v, hv⟩ := readReg_isValue hj
  exact ⟨v, hv, step_hostRead_value hn hh hv, readReg_value hv⟩

/-- Settles O34: the host's turn on CMD, on another mapped index and on a reserved one. -/
theorem hostWriteByIndex : Obligations.HostWriteByIndex := by
  unfold Obligations.HostWriteByIndex
  intro s j w rest hn hh
  refine ⟨fun i h0 hb hd => ?_, fun hj => ?_, fun hj => ?_⟩
  · rw [step_hostWrite hn hh, if_pos h0]
    exact hostCommandStep_exec hb hd
  · exact step_hostWrite_other hn hh (by bv_omega) (regAt_ne_none (by omega))
  · exact step_hostWrite_reserved hn hh (by bv_omega) ((regAt_eq_none_iff j).mpr hj)

/-- Settles O36: each register by evaluation; no response is valid, so none has a value. -/
theorem resetValues : Obligations.ResetValues :=
  ⟨fun i => Vector.getElem_replicate i.isLt, rfl, rfl, rfl, rfl, rfl, rfl, rfl, rfl, rfl, rfl, rfl, rfl, rfl⟩

end Sys2Proof.Machine
end

section
/-! PROOFS. The order of a reading's transactions: O51. A reading sends six transactions in a fixed order, and the phase says
how many of them have been sent; a step sends the one that comes next, or leaves the count as it is. -/

namespace Sys2Proof.Machine

/-- The transactions of a reading, the first one first (R190 to R197). -/
def readingTransactions (dev : Byte) (mode : BitVec 2) : List Transaction :=
  [.busWrite dev controlAddr 0x2E, .wait .temperature, .busRead dev resultAddr 2,
    .busWrite dev controlAddr (readPressureByte mode), .wait (.pressure mode), .busRead dev resultAddr 3]

/-- How many of them precede the block's next move; 0 outside a reading. -/
def sentCount (s : State) : Nat :=
  match s.phase with
  | .tWait => if s.timer.isSome then 2 else 1
  | .tRd => 2
  | .pCmd => 3
  | .pWait => if s.timer.isSome then 5 else 4
  | .pRd => 5
  | .compute => if isReading s.curOp.op then 6 else 0
  | .idle | .calRd _ | .calCommit | .tCmd => 0

section
variable {s t : State}

/-- The newest transactions are the first `sentCount s` of the reading, the last of them first. -/
theorem readingOrder_iff :
    ReadingOrder s
      ↔ ∃ before, s.issued = ((readingTransactions s.devAddr s.mode).take (sentCount s)).reverse ++ before := by
  unfold ReadingOrder sentCount
  cases s.phase with
  | tWait | pWait => cases s.timer <;> simp [readingTransactions]
  | compute => cases isReading s.curOp.op <;> simp [readingTransactions]
  | tRd | pCmd | pRd => simp [readingTransactions]
  | idle | calRd i | calCommit | tCmd => simp

/-- Where nothing of a reading has been sent, nothing is asked. -/
theorem ReadingOrder.of_sentCount_zero (h : sentCount s = 0) : ReadingOrder s := by
  rw [readingOrder_iff, h]
  exact ⟨s.issued, rfl⟩

theorem ReadingOrder.of_idle (hp : s.phase = .idle) : ReadingOrder s :=
  .of_sentCount_zero (by simp [sentCount, hp])

theorem ReadingOrder.of_inInit (hp : inInit s.phase = true) : ReadingOrder s := by
  apply ReadingOrder.of_sentCount_zero
  cases hq : s.phase <;> simp_all [sentCount, inInit]

/-- The order is kept by a step that sends the transaction whose turn it is. -/
theorem ReadingOrder.send {n : Nat} {x : Transaction} (h : ReadingOrder s) (hissued : t.issued = x :: s.issued)
    (hsession : t.devAddr = s.devAddr ∧ t.mode = s.mode) (hn : sentCount s = n) (hn' : sentCount t = n + 1)
    (hx : (readingTransactions s.devAddr s.mode)[n]? = some x) : ReadingOrder t := by
  rw [readingOrder_iff, hn] at h
  obtain ⟨before, hbefore⟩ := h
  obtain ⟨hdev, hmode⟩ := hsession
  rw [readingOrder_iff, hn', hissued, hdev, hmode, List.take_add_one, hx, List.reverse_append]
  exact ⟨before, congrArg (List.cons x) hbefore⟩

/-! Updates of items the order does not speak of. -/

protected theorem ReadingOrder.popSchedule (h : ReadingOrder s) : ReadingOrder (popSchedule s) := h

protected theorem ReadingOrder.popHost (h : ReadingOrder s) : ReadingOrder (popHost s) := h

protected theorem ReadingOrder.seen (i : HostIndex) (v : Word64) (h : ReadingOrder s) : ReadingOrder (seen i v s) := h

/-! Acceptance (R221): an operation starts with nothing sent, and COMP goes to COMPUTE without a reading. -/

theorem ReadingOrder.of_acceptInit (dev m : Byte) (s : State) : ReadingOrder (acceptInit dev m s) := by
  unfold acceptInit
  simp only
  split
  · exact .of_idle rfl
  · exact .of_inInit rfl

theorem ReadingOrder.of_acceptReading (op : HostOp) (s : State) : ReadingOrder (acceptReading op s) := by
  unfold acceptReading
  simp only
  split
  · exact .of_sentCount_zero rfl
  · exact .of_idle rfl

theorem ReadingOrder.of_acceptComp (ut : Half) (up : Triple) (m : Byte) (s : State) :
    ReadingOrder (acceptComp ut up m s) := by
  unfold acceptComp
  simp only
  split
  · exact .of_idle rfl
  · exact .of_sentCount_zero rfl

protected theorem ReadingOrder.acceptMove (d : HostDecoded) (h : ReadingOrder s) : ReadingOrder (acceptMove d s) := by
  cases d with
  | illegal op => exact .of_idle rfl
  | instr i =>
    cases i with
    | init dev m => exact .of_acceptInit dev m s
    | readc | gett | getp | geta => exact .of_acceptReading _ s
    | comp ut up m => exact .of_acceptComp ut up m s
    | readTemp | readPressure m => exact h

theorem ReadingOrder.of_hostStep (h : ReadingOrder s) (ht : hostStep s = .next t) : ReadingOrder t := by
  rcases hostStep_cases ht with ⟨-, rfl⟩ | ⟨w, rest, -, -, rfl⟩ | ⟨w, rest, -, -, rfl⟩ | ⟨i, w, rest, -, -, rfl⟩
    | ⟨i, v, rest, -, -, rfl⟩ | ⟨rest, -, rfl⟩
  · exact h
  · exact h
  · exact h.popHost.acceptMove _
  · exact h.popHost
  · exact h.popHost.seen i v
  · split
    · exact h.seen _ _
    · exact h.popHost.seen _ _

/-! The timer (R192, R196): the wait was counted when it was asked for, so its signal leaves the count. -/

theorem sentCount_timerSignal (s : State) : sentCount (timerSignal s) = sentCount s := by
  cases hw : s.timer with
  | none => rw [timerSignal_none hw]
  | some w =>
    rw [timerSignal_some hw]
    cases hp : s.phase <;> simp [sentCount, afterWait, hp, hw]

theorem timerSignal_sent (s : State) :
    (timerSignal s).issued = s.issued ∧ (timerSignal s).devAddr = s.devAddr ∧ (timerSignal s).mode = s.mode := by
  unfold timerSignal
  split <;> exact ⟨rfl, rfl, rfl⟩

protected theorem ReadingOrder.timerSignal (h : ReadingOrder s) : ReadingOrder (timerSignal s) := by
  obtain ⟨hissued, hdev, hmode⟩ := timerSignal_sent s
  rw [readingOrder_iff] at h ⊢
  rwa [sentCount_timerSignal, hissued, hdev, hmode]

/-! The block. -/

/-- Silence leaves the block where it is and an error ends the operation; what follows on ok is the caller's. -/
protected theorem ReadingOrder.busWriteOr {info dev reg value : Byte} {next : State → State} (h : ReadingOrder s)
    (hnext : ReadingOrder (next (busIssue (.busWrite dev reg value) s))) :
    ReadingOrder (busWriteOr info dev reg value next s) := by
  unfold busWriteOr
  split
  · exact h
  · exact hnext
  · exact .of_idle rfl

protected theorem ReadingOrder.busReadOr {info dev reg : Byte} {n : Nat}
    {next : Byte → Byte → Byte → State → State} (h : ReadingOrder s)
    (hnext : ∀ d0 d1 d2, ReadingOrder (next d0 d1 d2 (busIssue (.busRead dev reg n) s))) :
    ReadingOrder (busReadOr info dev reg n next s) := by
  unfold busReadOr
  split
  · exact h
  · exact hnext _ _ _
  · exact .of_idle rfl

theorem calRd_phase (i : Fin 11) (s : State) :
    (calRd i s).phase = s.phase ∨ (calRd i s).phase = afterCalRd i ∨ (calRd i s).phase = .idle := by
  unfold calRd
  split
  · exact .inl rfl
  · exact .inr (.inl rfl)
  · split
    · exact .inr (.inr rfl)
    · exact .inr (.inl rfl)

theorem ReadingOrder.of_calRd {i : Fin 11} (hp : s.phase = .calRd i) : ReadingOrder (calRd i s) := by
  rcases calRd_phase i s with h | h | h
  · exact .of_inInit (by rw [h, hp]; rfl)
  · exact .of_inInit (by rw [h, inInit_afterCalRd])
  · exact .of_idle h

theorem compute_phase (s : State) : (compute s).phase = .idle := by
  unfold compute
  split <;> rfl

protected theorem ReadingOrder.tCmd (h : ReadingOrder s) (hp : s.phase = .tCmd) (ht : s.timer = none) :
    ReadingOrder (tCmd s) :=
  h.busWriteOr <| h.send (n := 0) rfl ⟨rfl, rfl⟩ (by simp [sentCount, hp]) (by simp [sentCount, ht]) rfl

protected theorem ReadingOrder.tWait (h : ReadingOrder s) (hp : s.phase = .tWait) : ReadingOrder (tWait s) := by
  cases ht : s.timer with
  | none =>
    rw [tWait, waitFor_first ht]
    exact h.send (n := 1) rfl ⟨rfl, rfl⟩ (by simp [sentCount, hp, ht]) (by simp [sentCount, hp]) rfl
  | some w => rwa [tWait, waitFor_again ht]

protected theorem ReadingOrder.tRd (h : ReadingOrder s) (hp : s.phase = .tRd) : ReadingOrder (tRd s) :=
  h.busReadOr fun _ _ _ => h.send (n := 2) rfl ⟨rfl, rfl⟩ (by simp [sentCount, hp]) (by simp [sentCount]) rfl

protected theorem ReadingOrder.pCmd (h : ReadingOrder s) (hp : s.phase = .pCmd) (ht : s.timer = none) :
    ReadingOrder (pCmd s.mode s) :=
  h.busWriteOr <| h.send (n := 3) rfl ⟨rfl, rfl⟩ (by simp [sentCount, hp]) (by simp [sentCount, ht]) rfl

protected theorem ReadingOrder.pWait (h : ReadingOrder s) (hp : s.phase = .pWait) : ReadingOrder (pWait s) := by
  cases ht : s.timer with
  | none =>
    rw [pWait, waitFor_first ht]
    exact h.send (n := 4) rfl ⟨rfl, rfl⟩ (by simp [sentCount, hp, ht]) (by simp [sentCount, hp]) rfl
  | some w => rwa [pWait, waitFor_again ht]

protected theorem ReadingOrder.pRd (h : ReadingOrder s) (hp : s.phase = .pRd) (hop : isReading s.curOp.op = true) :
    ReadingOrder (pRd s) :=
  h.busReadOr fun _ _ _ => h.send (n := 5) rfl ⟨rfl, rfl⟩ (by simp [sentCount, hp]) (by simp [sentCount, hop]) rfl

/-- The invariant gives a phase that writes a command no wait outstanding, and P_RD a reading. -/
protected theorem ReadingOrder.blockMove (h : ReadingOrder s) (hinv : RegInv s) : ReadingOrder (blockMove s) := by
  unfold blockMove
  split
  next => exact h
  next i hp => exact .of_calRd hp
  next => exact .of_idle rfl
  next hp => exact h.tCmd hp (hinv.timer_eq_none hp (by simp))
  next hp => exact h.tWait hp
  next hp => exact h.tRd hp
  next hp => exact h.pCmd hp (hinv.timer_eq_none hp (by simp))
  next hp => exact h.pWait hp
  next hp => exact h.pRd hp (hinv.reading_op (by simp [hp, inAcquisition])).1
  next => exact .of_idle (compute_phase s)

end

/-- Settles O51: each agent's move keeps the order, and reset leaves no reading in progress. -/
theorem stepKeepsTheReadingOrder : Obligations.StepKeepsTheReadingOrder := by
  unfold Obligations.StepKeepsTheReadingOrder
  intro s t hinv h hst
  rcases step_cases hst with ⟨-, ht⟩ | ⟨-, rfl⟩ | ⟨-, rfl⟩ | ⟨-, rfl⟩
  · exact h.popSchedule.of_hostStep ht
  · exact h.popSchedule.blockMove hinv.popSchedule
  · exact h.popSchedule.timerSignal
  · exact .of_idle rfl

end Sys2Proof.Machine
end

section
/-! PROOFS. What a step sends: O53. The two bus primitives and the wait request send the one transaction they name, and every
other update sends none. -/

namespace Sys2Proof.Machine

/-- What the block of state s may send (R61, R71, R75, R99, R102). -/
def LegalTransaction (s : State) : Transaction → Prop
  | .busWrite dev reg b =>
    dev = s.devAddr ∧ reg = 0xF4 ∧ (b = 0x2E ∨ b = 0x34 ∨ b = 0x74 ∨ b = 0xB4 ∨ b = 0xF4)
  | .busRead dev reg n =>
    (dev = s.devAddr ∧ reg = 0xF6 ∧ (n = 2 ∨ n = 3))
    ∨ (dev = s.curOp.dev ∧ n = 2 ∧ ∃ i : Fin 11, reg.toNat = 0xAA + 2 * i.val)
  | .wait _ => True

/-- From s to t at most one transaction has been sent, and only a legal one. -/
def SendsAtMostOneLegal (s t : State) : Prop :=
  t.issued = s.issued ∨ ∃ x, t.issued = x :: s.issued ∧ LegalTransaction s x

theorem readPressureByte_mem (m : BitVec 2) :
    readPressureByte m = 0x34 ∨ readPressureByte m = 0x74 ∨ readPressureByte m = 0xB4 ∨ readPressureByte m = 0xF4 := by
  revert m
  decide

theorem calAddr_toNat (i : Fin 11) : (calAddr i).toNat = 0xAA + 2 * i.val := by
  revert i
  decide

/-! The updates that send nothing. -/

theorem acceptInit_issued (dev m : Byte) (s : State) : (acceptInit dev m s).issued = s.issued := by
  unfold acceptInit
  simp only
  split <;> rfl

theorem acceptReading_issued (op : HostOp) (s : State) : (acceptReading op s).issued = s.issued := by
  unfold acceptReading
  simp only
  split <;> rfl

theorem acceptComp_issued (ut : Half) (up : Triple) (m : Byte) (s : State) :
    (acceptComp ut up m s).issued = s.issued := by
  unfold acceptComp
  simp only
  split <;> rfl

theorem acceptMove_issued (d : HostDecoded) (s : State) : (acceptMove d s).issued = s.issued := by
  cases d with
  | illegal op => rfl
  | instr i =>
    cases i with
    | init dev m => exact acceptInit_issued dev m s
    | readc | gett | getp | geta => exact acceptReading_issued _ s
    | comp ut up m => exact acceptComp_issued ut up m s
    | readTemp | readPressure m => rfl

/-- The host's moves send nothing: an accepted command is carried out by later steps of the block. -/
theorem hostStep_issued {s t : State} (h : hostStep s = .next t) : t.issued = s.issued := by
  rcases hostStep_cases h with ⟨-, rfl⟩ | ⟨w, rest, -, -, rfl⟩ | ⟨w, rest, -, -, rfl⟩ | ⟨i, w, rest, -, -, rfl⟩
    | ⟨i, v, rest, -, -, rfl⟩ | ⟨rest, -, rfl⟩
  · rfl
  · rfl
  · exact acceptMove_issued _ (popHost s)
  · rfl
  · rfl
  · split <;> rfl

theorem compute_issued (s : State) : (compute s).issued = s.issued := by
  unfold compute
  split <;> rfl

/-! The updates that send one transaction. -/

section
variable {s : State}

theorem sendsAtMostOneLegal_busWriteOr {info dev reg value : Byte} {next : State → State}
    (hlegal : LegalTransaction s (.busWrite dev reg value)) (hnext : ∀ u, (next u).issued = u.issued) :
    SendsAtMostOneLegal s (busWriteOr info dev reg value next s) := by
  unfold busWriteOr
  split
  · exact .inl rfl
  · exact .inr ⟨_, hnext _, hlegal⟩
  · exact .inr ⟨_, rfl, hlegal⟩

theorem sendsAtMostOneLegal_busReadOr {info dev reg : Byte} {n : Nat} {next : Byte → Byte → Byte → State → State}
    (hlegal : LegalTransaction s (.busRead dev reg n)) (hnext : ∀ d0 d1 d2 u, (next d0 d1 d2 u).issued = u.issued) :
    SendsAtMostOneLegal s (busReadOr info dev reg n next s) := by
  unfold busReadOr
  split
  · exact .inl rfl
  · exact .inr ⟨_, hnext _ _ _ _, hlegal⟩
  · exact .inr ⟨_, rfl, hlegal⟩

theorem sendsAtMostOneLegal_calRd (i : Fin 11) (s : State) : SendsAtMostOneLegal s (calRd i s) := by
  have hlegal : LegalTransaction s (.busRead s.curOp.dev (calAddr i) 2) := .inr ⟨rfl, rfl, i, calAddr_toNat i⟩
  unfold calRd
  split
  · exact .inl rfl
  · exact .inr ⟨_, rfl, hlegal⟩
  · split <;> exact .inr ⟨_, rfl, hlegal⟩

theorem sendsAtMostOneLegal_waitFor (w : WaitKind) (s : State) : SendsAtMostOneLegal s (waitFor w s) := by
  unfold waitFor
  split
  · exact .inr ⟨_, rfl, trivial⟩
  · exact .inl rfl

theorem sendsAtMostOneLegal_blockMove (s : State) : SendsAtMostOneLegal s (blockMove s) := by
  unfold blockMove
  split
  next => exact .inl rfl
  next i _ => exact sendsAtMostOneLegal_calRd i s
  next => exact .inl rfl
  next => exact sendsAtMostOneLegal_busWriteOr ⟨rfl, rfl, .inl rfl⟩ (goto_issued _)
  next => exact sendsAtMostOneLegal_waitFor _ s
  next => exact sendsAtMostOneLegal_busReadOr (.inl ⟨rfl, rfl, .inl rfl⟩) fun _ _ _ _ => rfl
  next => exact sendsAtMostOneLegal_busWriteOr ⟨rfl, rfl, .inr (readPressureByte_mem s.mode)⟩ (goto_issued _)
  next => exact sendsAtMostOneLegal_waitFor _ s
  next => exact sendsAtMostOneLegal_busReadOr (.inl ⟨rfl, rfl, .inr rfl⟩) fun _ _ _ _ => rfl
  next => exact .inl (compute_issued s)

theorem sendsAtMostOneLegal_of_step {t : State} (h : step s = .next t) : SendsAtMostOneLegal s t := by
  rcases step_cases h with ⟨-, ht⟩ | ⟨-, rfl⟩ | ⟨-, rfl⟩ | ⟨-, rfl⟩
  · exact .inl ((hostStep_issued ht).trans (popSchedule_issued s))
  · exact sendsAtMostOneLegal_blockMove (popSchedule s)
  · exact .inl (timerSignal_sent (popSchedule s)).1
  · exact .inl rfl

end

/-- Settles O53: a legal transaction, read off for a bus write and for a bus read. -/
theorem stepSendsAtMostOneLegalTransaction : Obligations.StepSendsAtMostOneLegalTransaction := by
  unfold Obligations.StepSendsAtMostOneLegalTransaction
  intro s t h
  refine (sendsAtMostOneLegal_of_step h).imp_right ?_
  rintro ⟨x, hx, hlegal⟩
  refine ⟨x, hx, ?_, ?_⟩
  · rintro dev reg b rfl
    exact hlegal
  · rintro dev reg n rfl
    exact hlegal

end Sys2Proof.Machine
end

section
/-! PROOFS. A sensor command executed where the block does not emit it: O21 (log entry 11). -/

namespace Sys2Proof.Machine

theorem exec_readTemp_of_phase_ne {s : State} (hp : s.phase ≠ .tCmd) : exec .readTemp s = .next s :=
  congrArg Host.Outcome.next (if_neg hp)

theorem exec_readPressure_of_not_emitted {s : State} {oss : BitVec 2} (h : s.phase ≠ .pCmd ∨ oss ≠ s.mode) :
    exec (.readPressure oss) s = .next s :=
  congrArg Host.Outcome.next (if_neg (not_and_or.mpr h))

/-- Settles O21: outside its phase, or with an OSS other than MODE, neither command passes its guard. -/
theorem sensorCommandOutOfPhaseChangesNothing : Obligations.SensorCommandOutOfPhaseChangesNothing :=
  ⟨fun _ => exec_readTemp_of_phase_ne, fun _ _ => exec_readPressure_of_not_emitted⟩

end Sys2Proof.Machine
end

section
/-! PROOFS. The encodings: O1, O2, O3 and O5. A host command word is a concatenation of its fields, out of which
`decodeHcmd` cuts them and into which they can be put together again. -/

namespace Sys2Proof.Machine

/-- INIT's fields from bit 63 down (R93): OP, the reserved bits, DEV, MODE_REQ. -/
def initWord (dev modeReq : Byte) : Word64 := 0x1#4 ++ 0#44 ++ dev ++ modeReq

/-- A command without operands (R94): OP, then reserved bits. -/
def plainWord (op : BitVec 4) : Word64 := op ++ 0#60

/-- COMP's fields from bit 63 down (R95): OP, the reserved bits, UT, UP, MODE_REQ. -/
def compWord (ut : Half) (up : Triple) (modeReq : Byte) : Word64 := 0x6#4 ++ 0#12 ++ ut ++ up ++ modeReq

/-! The encoder builds these words. -/

theorem setWidth_shiftLeft_or_setWidth {m n : Nat} (v : Nat) (x : BitVec m) (y : BitVec n) :
    (x.setWidth v <<< n) ||| y.setWidth v = (x ++ y).setWidth v := by
  refine BitVec.eq_of_getLsbD_eq fun k hk => ?_
  rw [BitVec.getLsbD_or, BitVec.getLsbD_shiftLeft, BitVec.getLsbD_setWidth, BitVec.getLsbD_setWidth,
    BitVec.getLsbD_setWidth, BitVec.getLsbD_append]
  by_cases hkn : k < n
  · simp [hk, hkn]
  · simp [hk, hkn, BitVec.getLsbD_of_ge y k (not_lt.mp hkn), Nat.sub_lt_of_lt hk]

theorem encode_init (dev modeReq : Byte) : encode (.init dev modeReq) = .host (initWord dev modeReq) := by
  have hop : 0x1#64 <<< 60 = ((0x1#4 ++ 0#44).setWidth 64 <<< 8) <<< 8 := by decide
  rw [encode, hop, ← BitVec.shiftLeft_or_distrib, setWidth_shiftLeft_or_setWidth, setWidth_shiftLeft_or_setWidth,
    BitVec.setWidth_eq, initWord]

theorem encode_comp (ut : Half) (up : Triple) (modeReq : Byte) :
    encode (.comp ut up modeReq) = .host (compWord ut up modeReq) := by
  have hop : 0x6#64 <<< 60 = (((0x6#4 ++ 0#12).setWidth 64 <<< 16) <<< 24) <<< 8 := by decide
  have hut : ut.setWidth 64 <<< 32 = (ut.setWidth 64 <<< 24) <<< 8 := BitVec.shiftLeft_add _ 24 8
  rw [encode, hop, hut, ← BitVec.shiftLeft_or_distrib, ← BitVec.shiftLeft_or_distrib, ← BitVec.shiftLeft_or_distrib,
    setWidth_shiftLeft_or_setWidth, setWidth_shiftLeft_or_setWidth, setWidth_shiftLeft_or_setWidth,
    BitVec.setWidth_eq, compWord]

theorem encode_readc : encode .readc = .host (plainWord 0x2#4) := rfl
theorem encode_gett : encode .gett = .host (plainWord 0x3#4) := rfl
theorem encode_getp : encode .getp = .host (plainWord 0x4#4) := rfl
theorem encode_geta : encode .geta = .host (plainWord 0x5#4) := rfl

/-! The decoder cuts the fields out of them. -/

theorem decodeHcmd_initWord (dev modeReq : Byte) : decodeHcmd (initWord dev modeReq) = .instr (.init dev modeReq) := by
  unfold decodeHcmd initWord
  simp (disch := omega) only [BitVec.extractLsb'_append_eq_of_add_le, BitVec.extractLsb'_append_eq_of_le]
  simp

theorem decodeHcmd_compWord (ut : Half) (up : Triple) (modeReq : Byte) :
    decodeHcmd (compWord ut up modeReq) = .instr (.comp ut up modeReq) := by
  unfold decodeHcmd compWord
  simp (disch := omega) only [BitVec.extractLsb'_append_eq_of_add_le, BitVec.extractLsb'_append_eq_of_le]
  simp

/-! A word is its fields put together. -/

theorem initWord_of_fields {w : Word64} (hop : w.extractLsb' 60 4 = 0x1#4) (hres : w.extractLsb' 16 44 = 0#44) :
    initWord (w.extractLsb' 8 8) (w.extractLsb' 0 8) = w := by
  rw [initWord, ← hop, ← hres]
  simp (disch := rfl) only [BitVec.extractLsb'_append_extractLsb'_eq_extractLsb', BitVec.extractLsb'_eq_self]

theorem plainWord_of_fields {w : Word64} {op : BitVec 4} (hop : w.extractLsb' 60 4 = op)
    (hres : w.extractLsb' 0 60 = 0#60) : plainWord op = w := by
  rw [plainWord, ← hop, ← hres]
  simp (disch := rfl) only [BitVec.extractLsb'_append_extractLsb'_eq_extractLsb', BitVec.extractLsb'_eq_self]

theorem compWord_of_fields {w : Word64} (hop : w.extractLsb' 60 4 = 0x6#4) (hres : w.extractLsb' 48 12 = 0#12) :
    compWord (w.extractLsb' 32 16) (w.extractLsb' 8 24) (w.extractLsb' 0 8) = w := by
  rw [compWord, ← hop, ← hres]
  simp (disch := rfl) only [BitVec.extractLsb'_append_extractLsb'_eq_extractLsb', BitVec.extractLsb'_eq_self]

theorem encode_of_decodeHcmd {w : Word64} {i : Instr} (h : decodeHcmd w = .instr i) : encode i = .host w := by
  simp only [decodeHcmd] at h
  split_ifs at h with hop1 hres1 hop2 hres2 hop3 hres3 hop4 hres4 hop5 hres5 hop6 hres6 <;> cases h
  · rw [encode_init, initWord_of_fields hop1 hres1]
  · rw [encode_readc, plainWord_of_fields hop2 hres2]
  · rw [encode_gett, plainWord_of_fields hop3 hres3]
  · rw [encode_getp, plainWord_of_fields hop4 hres4]
  · rw [encode_geta, plainWord_of_fields hop5 hres5]
  · rw [encode_comp, compWord_of_fields hop6 hres6]

theorem encode_of_decodeScmd {b : Byte} {i : Instr} (h : decodeScmd b = .instr i) : encode i = .sensor b := by
  rcases decodeScmd_eq_instr h with ⟨rfl, rfl⟩ | ⟨m, rfl, rfl⟩ <;> rfl

/-! The two formats together. -/

theorem decode_host_eq_some_iff {w : Word64} {i : Instr} : decode (.host w) = some i ↔ decodeHcmd w = .instr i := by
  cases hd : decodeHcmd w <;> simp [decode, hd]

theorem decode_sensor_eq_some_iff {b : Byte} {i : Instr} :
    decode (.sensor b) = some i ↔ decodeScmd b = .instr i := by
  cases hd : decodeScmd b <;> simp [decode, hd]

theorem decode_encode (i : Instr) : decode (encode i) = some i := by
  cases i with
  | init dev modeReq => rw [encode_init, decode_host_eq_some_iff, decodeHcmd_initWord]
  | readc | gett | getp | geta => rfl
  | comp ut up modeReq => rw [encode_comp, decode_host_eq_some_iff, decodeHcmd_compWord]
  | readTemp => exact decode_sensor_eq_some_iff.mpr decodeScmd_readTemp
  | readPressure oss => exact decode_sensor_eq_some_iff.mpr (decodeScmd_readPressureByte oss)

/-- Settles O2: every operand has its field's width, so the round trip needs no premise. -/
theorem decodeOfEncodeIsTheInstruction : Obligations.DecodeOfEncodeIsTheInstruction :=
  fun i _ => decode_encode i

/-- Settles O3: `encode_of_decodeHcmd` for host words, `encode_of_decodeScmd` for sensor bytes. -/
theorem encodeOfDecodeIsTheWord : Obligations.EncodeOfDecodeIsTheWord := by
  unfold Obligations.EncodeOfDecodeIsTheWord
  intro w i h
  cases w with
  | host w => exact encode_of_decodeHcmd (decode_host_eq_some_iff.mp h)
  | sensor b => exact encode_of_decodeScmd (decode_sensor_eq_some_iff.mp h)

/-- Settles O1: each word is the encoding of its instruction, which decodes to it. -/
theorem wordsDecodeAsTabled : Obligations.WordsDecodeAsTabled :=
  ⟨decode_encode (.init 0x77 3), decode_encode .readc, decode_encode .gett, decode_encode .getp, decode_encode .geta,
    decode_encode (.comp 0x6CFA 0x005D23 2), decode_encode .readTemp, decode_encode (.readPressure 0),
    decode_encode (.readPressure 1), decode_encode (.readPressure 2), decode_encode (.readPressure 3)⟩

theorem readPressureByte_values (m : BitVec 2) :
    readPressureByte m = 0x34 ∨ readPressureByte m = 0x74 ∨ readPressureByte m = 0xB4 ∨ readPressureByte m = 0xF4 := by
  revert m
  decide

/-- Settles O5: a byte that decodes is READ_TEMP's or a mode's READ_PRESSURE byte, and these five are encodings. -/
theorem onlyFiveSensorCommandBytes : Obligations.OnlyFiveSensorCommandBytes := by
  unfold Obligations.OnlyFiveSensorCommandBytes
  refine fun b => ⟨fun ⟨i, h⟩ => ?_, ?_⟩
  · rcases decodeScmd_eq_instr (decode_sensor_eq_some_iff.mp h) with ⟨rfl, -⟩ | ⟨m, rfl, -⟩
    · exact .inl rfl
    · exact .inr (readPressureByte_values m)
  · rintro (rfl | rfl | rfl | rfl | rfl)
    · exact ⟨_, decode_encode .readTemp⟩
    · exact ⟨_, decode_encode (.readPressure 0)⟩
    · exact ⟨_, decode_encode (.readPressure 1)⟩
    · exact ⟨_, decode_encode (.readPressure 2)⟩
    · exact ⟨_, decode_encode (.readPressure 3)⟩

end Sys2Proof.Machine
end

section
/-! PROOFS. The raw samples of R104 and R105: O7. -/

namespace Sys2Proof.Machine

/-- What is left of 24 bits without the lowest 8 - mode has 16 + mode bits. -/
theorem rawPressure_lt (raw24 : Triple) (mode : BitVec 2) :
    (rawPressure raw24 mode).toNat < 2 ^ (16 + mode.toNat) := by
  have hexp : 16 + mode.toNat + (8 - mode.toNat) = 24 := by omega
  rw [rawPressure_toNat, Nat.div_lt_iff_lt_mul (by positivity), ← pow_add, hexp]
  exact raw24.isLt

/-- Settles O7: the formulas by the laws of the data formats, the range by `rawPressure_lt`. -/
theorem rawSampleAssembles : Obligations.RawSampleAssembles := by
  unfold Obligations.RawSampleAssembles
  refine ⟨utPair_toNat, fun msb lsb xlsb m => ⟨?_, Nat.le_sub_one_of_lt (rawPressure_lt _ m)⟩⟩
  rw [rawPressure_toNat, upTriple_toNat]

end Sys2Proof.Machine
end

section
/-! PROOFS. The host programs of R107 and R108: what a statement assembles to (O8), and the turn of WAIT (O35). -/

namespace Sys2Proof.Machine

/-! The words as numbers. -/

theorem toNat_append_eq_add {m n : Nat} (x : BitVec m) (y : BitVec n) :
    (x ++ y).toNat = x.toNat * 2 ^ n + y.toNat := by
  rw [BitVec.toNat_append, ← Nat.shiftLeft_add_eq_or_of_lt y.isLt, Nat.shiftLeft_eq]

theorem initWord_ofNat {dev mode : Nat} (hdev : dev < 2 ^ 8) (hmode : mode < 2 ^ 8) :
    initWord (BitVec.ofNat 8 dev) (BitVec.ofNat 8 mode) = BitVec.ofNat 64 (1 * 2 ^ 60 + dev * 2 ^ 8 + mode) := by
  apply BitVec.eq_of_toNat_eq
  simp only [initWord, toNat_append_eq_add, BitVec.toNat_ofNat]
  omega

theorem compWord_ofNat {ut up mode : Nat} (hut : ut < 2 ^ 16) (hup : up < 2 ^ 24) (hmode : mode < 2 ^ 8) :
    compWord (BitVec.ofNat 16 ut) (BitVec.ofNat 24 up) (BitVec.ofNat 8 mode)
      = BitVec.ofNat 64 (6 * 2 ^ 60 + ut * 2 ^ 32 + up * 2 ^ 8 + mode) := by
  apply BitVec.eq_of_toNat_eq
  simp only [compWord, toNat_append_eq_add, BitVec.toNat_ofNat]
  omega

/-! The assembler. -/

theorem assemble_of_wellFormed {st : Statement} (h : st.wellFormed = true) : assemble st = some (accesses st) :=
  if_pos h

theorem assemble_eq_none_iff {st : Statement} : assemble st = none ↔ st.wellFormed = false := by
  cases h : st.wellFormed <;> simp [assemble, h]

theorem cmdWrite_of_encode {i : Instr} {w : Word64} (h : encode i = .host w) : cmdWrite i = [.write 0 w] := by
  rw [cmdWrite, h]
  rfl

theorem wellFormed_init_iff {dev mode : Nat} :
    (Statement.init dev mode).wellFormed = true ↔ dev < 2 ^ 8 ∧ mode < 2 ^ 8 := by
  simp only [Statement.wellFormed, Bool.and_eq_true, decide_eq_true_eq]

theorem wellFormed_comp_iff {ut up mode : Nat} :
    (Statement.comp ut up mode).wellFormed = true ↔ (ut < 2 ^ 16 ∧ up < 2 ^ 24) ∧ mode < 2 ^ 8 := by
  simp only [Statement.wellFormed, Bool.and_eq_true, decide_eq_true_eq]

theorem assemble_init {dev mode : Nat} (hdev : dev < 2 ^ 8) (hmode : mode < 2 ^ 8) :
    assemble (.init dev mode) = some [.write 0 (BitVec.ofNat 64 (1 * 2 ^ 60 + dev * 2 ^ 8 + mode))] := by
  rw [assemble_of_wellFormed (wellFormed_init_iff.mpr ⟨hdev, hmode⟩), accesses, cmdWrite_of_encode (encode_init _ _),
    initWord_ofNat hdev hmode]

theorem assemble_comp {ut up mode : Nat} (hut : ut < 2 ^ 16) (hup : up < 2 ^ 24) (hmode : mode < 2 ^ 8) :
    assemble (.comp ut up mode)
      = some [.write 0 (BitVec.ofNat 64 (6 * 2 ^ 60 + ut * 2 ^ 32 + up * 2 ^ 8 + mode))] := by
  rw [assemble_of_wellFormed (wellFormed_comp_iff.mpr ⟨⟨hut, hup⟩, hmode⟩), accesses,
    cmdWrite_of_encode (encode_comp _ _ _), compWord_ofNat hut hup hmode]

theorem assemble_cmd {w : Nat} (hw : w < 2 ^ 64) : assemble (.cmd w) = some [.write 0 (BitVec.ofNat 64 w)] :=
  assemble_of_wellFormed (decide_eq_true hw)

theorem assemble_eq_some_iff {st : Statement} {l : List HostAccess} :
    assemble st = some l ↔ st.wellFormed = true ∧ accesses st = l := by
  cases h : st.wellFormed <;> simp [assemble, h]

theorem assemble_run {op : Statement} {l : List HostAccess} (hop : op.writesCmd = true) (hl : assemble op = some l) :
    assemble (.run op) = some (l ++ [.waitIdle]) := by
  obtain ⟨hwf, rfl⟩ := assemble_eq_some_iff.mp hl
  exact assemble_of_wellFormed (by rw [Statement.wellFormed, hop, hwf, Bool.and_true])

theorem assemble_init_tooWide {dev mode : Nat} (h : 2 ^ 8 ≤ dev ∨ 2 ^ 8 ≤ mode) : assemble (.init dev mode) = none := by
  rw [assemble_eq_none_iff, ← Bool.not_eq_true, wellFormed_init_iff]
  omega

theorem assemble_comp_tooWide {ut up mode : Nat} (h : 2 ^ 16 ≤ ut ∨ 2 ^ 24 ≤ up ∨ 2 ^ 8 ≤ mode) :
    assemble (.comp ut up mode) = none := by
  rw [assemble_eq_none_iff, ← Bool.not_eq_true, wellFormed_comp_iff]
  omega

theorem assemble_cmd_tooWide {w : Nat} (h : 2 ^ 64 ≤ w) : assemble (.cmd w) = none :=
  assemble_eq_none_iff.mpr (decide_eq_false h.not_gt)

theorem assemble_run_of_none {op : Statement} (h : assemble op = none) : assemble (.run op) = none := by
  rw [assemble_eq_none_iff] at h ⊢
  rw [Statement.wellFormed, h, Bool.and_false]

/-- RUN takes a statement that writes CMD (log entry 18). -/
theorem assemble_run_of_not_writesCmd {op : Statement} (h : op.writesCmd = false) : assemble (.run op) = none := by
  rw [assemble_eq_none_iff, Statement.wellFormed, h, Bool.false_and]

/-- Settles O8: a lemma per kind of statement and per way it can fail to assemble. -/
theorem statementsAssemble : Obligations.StatementsAssemble :=
  ⟨fun _ _ => assemble_init, fun _ _ _ => assemble_comp, rfl, rfl, rfl, rfl, fun _ => assemble_cmd, fun _ => rfl, rfl,
    fun _ _ => assemble_run, fun _ _ => assemble_init_tooWide, fun _ _ _ => assemble_comp_tooWide,
    fun _ => assemble_cmd_tooWide, fun _ => assemble_run_of_none, fun _ => assemble_run_of_not_writesCmd rfl,
    assemble_run_of_not_writesCmd rfl, fun _ => assemble_run_of_not_writesCmd rfl,
    fun _ => assemble_eq_none_iff.mpr⟩

/-! The turn of WAIT. -/

theorem step_waitIdle {s : State} {rest : List HostAccess} (hn : nextAgent s = .host)
    (hh : s.host = .waitIdle :: rest) : step s = hostPollStep (popSchedule s) := by
  have hp : (popSchedule s).host = .waitIdle :: rest := hh
  rw [step, hn, runAgent, hostStep, hp]

/-- Settles O35: bit 0 of the word read is BUSY, on which `hostPollStep` decides. -/
theorem waitPollsStatus : Obligations.WaitPollsStatus := by
  unfold Obligations.WaitPollsStatus
  intro s rest hn hh
  obtain ⟨hbit, -, -⟩ := statusWord_bits s
  refine ⟨statusWord s, readReg_status s, ?_⟩
  rw [step_waitIdle hn hh, hostPollStep, hbit, popHost_popSchedule hh, popSchedule_busy]
  by_cases hb : s.busy = true
  · rw [if_pos hb, if_pos hb]
    rfl
  · rw [if_neg hb, if_neg hb]
    rfl

end Sys2Proof.Machine
end

section
/-! PROOFS. The formats of a calibration pair: O6. -/

namespace Sys2Proof.Machine

theorem decodeS16_eq (hi lo : Byte) :
    decodeS16 hi lo = (if 127 < hi.toNat then (hi.toNat : Int) - 256 else hi.toNat) * 256 + lo.toNat := by
  have hlo := lo.isLt
  unfold decodeS16 sext16
  rw [calPair_toNat]
  split <;> split <;> omega

theorem decodeU16_eq (hi lo : Byte) : decodeU16 hi lo = (hi.toNat : Int) * 256 + lo.toNat := by
  rw [decodeU16, zext16, calPair_toNat]
  push_cast
  rfl

/-- Settles O6: the pattern is hi × 256 + lo, and its sign bit is the sign bit of hi. -/
theorem calibrationPairDecodes : Obligations.CalibrationPairDecodes :=
  fun hi lo => ⟨decodeS16_eq hi lo, decodeU16_eq hi lo⟩

end Sys2Proof.Machine
end

section
/-! PROOFS. The block's turn in CAL_RD(i) and in CAL_COMMIT: O22 and O23. -/

namespace Sys2Proof.Machine

theorem afterCalRd_eq (i : Fin 11) :
    afterCalRd i = if h : i.val < 10 then .calRd ⟨i.val + 1, by omega⟩ else .calCommit := by
  unfold afterCalRd
  split <;> split
  · rfl
  · omega
  · omega
  · rfl

/-- The address of R122 is the only byte with its number. -/
theorem eq_calAddr {i : Fin 11} {a : Byte} (h : a.toNat = 0xAA + 2 * i.val) : a = calAddr i :=
  BitVec.eq_of_toNat_eq (h.trans (calAddr_toNat i).symm)

section
variable {s : State}

theorem step_calRd {i : Fin 11} (hn : nextAgent s = .block) (hp : s.phase = .calRd i) :
    step s = .next (calRd i (popSchedule s)) := by
  rw [step_block hn, blockMove, popSchedule_phase, hp]

theorem step_calRd_ok {i : Fin 11} {d0 d1 d2 : Byte} (hn : nextAgent s = .block) (hp : s.phase = .calRd i)
    (ha : busAnswer (.busRead s.curOp.dev (calAddr i) 2) s = some (.ok d0 d1 d2)) :
    step s = .next (stageCal i (calPair d0 d1) (busIssue (.busRead s.curOp.dev (calAddr i) 2) (popSchedule s))) := by
  rw [step_calRd hn hp, calRd_ok (s := popSchedule s) ha]
  rfl

theorem step_calCommit (hn : nextAgent s = .block) (hp : s.phase = .calCommit) :
    step s = .next (calCommit (popSchedule s)) := by
  rw [step_block hn, blockMove, popSchedule_phase, hp]

end

/-- Settles O22: the block's turn by the answer and the policy. -/
theorem calRdStagesOrFails : Obligations.CalRdStagesOrFails := by
  unfold Obligations.CalRdStagesOrFails
  intro s i a hn hp ha
  obtain rfl := eq_calAddr ha
  simp only [← afterCalRd_eq]
  refine ⟨fun d0 d1 d2 hok => ?_, fun code herr => ⟨fun hpol => ?_, fun hpol => ?_⟩⟩
  · exact step_calRd_ok hn hp hok
  · rw [step_calRd hn hp, calRd_error_failFast (s := popSchedule s) herr hpol]
    rfl
  · rw [step_calRd hn hp, calRd_error_zeroFill (s := popSchedule s) herr hpol]
    rfl

/-- Settles O23: the commit writes the session, and INIT's mask is empty (R229). -/
theorem calCommitWritesTheSession : Obligations.CalCommitWritesTheSession := by
  unfold Obligations.CalCommitWritesTheSession
  intro s hn hp hop
  rw [step_calCommit hn hp, BitVec.setWidth_eq_extractLsb' (by decide)]
  simp [calCommit, completeOk, popSchedule, hop, validMask]

end Sys2Proof.Machine
end

section
/-! PROOFS. The session changes only in CAL_COMMIT and at reset: O52. -/

namespace Sys2Proof.Machine

/-- The items that an INIT sets up for the readings after it (R22, R24, R25, R26), in one tuple. -/
def sessionOf (s : State) := (s.cal, s.mode, s.devAddr, s.initDone)

theorem sessionOf_eq_iff {s t : State} :
    sessionOf t = sessionOf s
      ↔ t.cal = s.cal ∧ t.mode = s.mode ∧ t.devAddr = s.devAddr ∧ t.initDone = s.initDone := by
  simp only [sessionOf, Prod.mk.injEq]

theorem sessionOf_of_untouched {s t : State} (h : untouched t = untouched s) : sessionOf t = sessionOf s := by
  simp only [untouched, Prod.mk.injEq] at h
  rw [sessionOf_eq_iff]
  tauto

theorem sessionOf_busReadOr {info dev reg : Byte} {n : Nat} {next : Byte → Byte → Byte → State → State}
    (hnext : ∀ d0 d1 d2 s, sessionOf (next d0 d1 d2 s) = sessionOf s) (s : State) :
    sessionOf (busReadOr info dev reg n next s) = sessionOf s := by
  unfold busReadOr
  split
  · rfl
  · exact hnext _ _ _ _
  · rfl

theorem sessionOf_tRd (s : State) : sessionOf (tRd s) = sessionOf s := by
  refine sessionOf_busReadOr (fun d0 d1 d2 u => ?_) s
  rfl

theorem sessionOf_pRd (s : State) : sessionOf (pRd s) = sessionOf s := by
  refine sessionOf_busReadOr (fun d0 d1 d2 u => ?_) s
  rfl

theorem sessionOf_calRd (i : Fin 11) (s : State) : sessionOf (calRd i s) = sessionOf s := by
  unfold calRd
  split
  · rfl
  · rfl
  · split <;> rfl

theorem sessionOf_waitFor (w : WaitKind) (s : State) : sessionOf (waitFor w s) = sessionOf s := by
  unfold waitFor
  split <;> rfl

theorem sessionOf_timerSignal (s : State) : sessionOf (timerSignal s) = sessionOf s := by
  unfold timerSignal
  split <;> rfl

theorem sessionOf_compute (s : State) : sessionOf (compute s) = sessionOf s := by
  unfold compute
  split <;> rfl

theorem sessionOf_blockMove {s : State} (h : s.phase ≠ .calCommit) : sessionOf (blockMove s) = sessionOf s := by
  unfold blockMove
  split
  next => rfl
  next => exact sessionOf_calRd _ s
  next hp => exact absurd hp h
  next => exact sessionOf_of_untouched (untouched_tCmd s)
  next => exact sessionOf_waitFor _ s
  next => exact sessionOf_tRd s
  next => exact sessionOf_of_untouched (untouched_pCmd _ s)
  next => exact sessionOf_waitFor _ s
  next => exact sessionOf_pRd s
  next => exact sessionOf_compute s

theorem sessionOf_hostStep {s t : State} (h : hostStep s = .next t) : sessionOf t = sessionOf s := by
  rcases hostStep_cases h with ⟨-, rfl⟩ | ⟨w, rest, -, -, rfl⟩ | ⟨w, rest, -, -, rfl⟩ | ⟨i, w, rest, -, -, rfl⟩
    | ⟨i, v, rest, -, -, rfl⟩ | ⟨rest, -, rfl⟩
  · rfl
  · rfl
  · exact (sessionOf_of_untouched (untouched_acceptMove _ (popHost s))).trans rfl
  · rfl
  · rfl
  · split <;> rfl

theorem sessionOf_step {s t : State} (h : step s = .next t) (hreset : nextAgent s ≠ .reset)
    (hcommit : ¬(nextAgent s = .block ∧ s.phase = .calCommit)) : sessionOf t = sessionOf s := by
  rcases step_cases h with ⟨-, ht⟩ | ⟨hn, rfl⟩ | ⟨-, rfl⟩ | ⟨hn, -⟩
  · exact (sessionOf_hostStep ht).trans rfl
  · exact sessionOf_blockMove fun hp => hcommit ⟨hn, hp⟩
  · exact sessionOf_timerSignal (popSchedule s)
  · exact absurd hn hreset

/-- Settles O52: a step outside CAL_COMMIT keeps the session, and CAL_COMMIT sets INIT_DONE. -/
theorem sessionChangesOnlyAtCommitOrReset : Obligations.SessionChangesOnlyAtCommitOrReset := by
  unfold Obligations.SessionChangesOnlyAtCommitOrReset
  intro s t h hreset
  refine ⟨fun hcommit => sessionOf_eq_iff.mp (sessionOf_step h hreset hcommit), fun hdone => ?_⟩
  by_cases hcommit : nextAgent s = .block ∧ s.phase = .calCommit
  · obtain rfl := Host.Outcome.next.inj ((step_calCommit hcommit.1 hcommit.2).symm.trans h)
    rfl
  · obtain ⟨-, -, -, hinit⟩ := sessionOf_eq_iff.mp (sessionOf_step h hreset hcommit)
    exact hinit.trans hdone

end Sys2Proof.Machine
end

section
/-! PROOFS. A whole INIT in the fair order (log entry 10): O59. After n reads the stage holds the first n patterns, and the
first n transactions of the load have been sent; each read takes that from n to n + 1, and the commit follows the
eleventh. -/

namespace Sys2Proof.Machine

/-! Runs. -/

theorem run_succ_of_step {s t : State} (h : step s = .next t) (n : Nat) :
    Host.Core.run core (n + 1) s = Host.Core.run core n t := by
  have hc : core.step s = .next t := h
  simp only [Host.Core.run, hc]

/-- In the fair order the block goes on where no wait is outstanding. -/
theorem nextAgent_fair_block {s : State} (hsched : s.schedule = []) (hafter : s.afterSchedule = none)
    (hb : s.busy = true) (ht : s.timer = none) : nextAgent s = .block := by
  simp [nextAgent_fair hsched hafter, fairAgent, hb, ht]

/-! The load. -/

/-- The phase of an INIT that has read its first n pairs (R124). -/
def loadPhase (n : Nat) : Phase := if h : n < 11 then .calRd ⟨n, h⟩ else .calCommit

/-- The eleven reads of R122 and R123, the first one first. -/
def loadReads (dev : Byte) : List Transaction := List.ofFn fun i : Fin 11 => .busRead dev (calAddr i) 2

/-- Eleven successful answers. -/
def loadAnswers (hi lo x : Vector Byte 11) : List BusAnswer := List.ofFn fun i : Fin 11 => .ok hi[i] lo[i] x[i]

/-- In t, the INIT that was in CAL_RD(0) in s has read its first n pairs. -/
structure LoadProgress (s : State) (hi lo x : Vector Byte 11) (rest : List BusAnswer) (n : Nat) (t : State) : Prop where
  inv : RegInv t
  schedule : t.schedule = []
  afterSchedule : t.afterSchedule = none
  curOp : t.curOp = s.curOp
  phase : t.phase = loadPhase n
  staged : ∀ i : Fin 11, i.val < n → t.calStage[i] = calPair hi[i] lo[i]
  bus : t.bus = (loadAnswers hi lo x).drop n ++ rest
  issued : t.issued = ((loadReads s.curOp.dev).take n).reverse ++ s.issued

theorem loadReads_length (dev : Byte) : (loadReads dev).length = 11 := List.length_ofFn

theorem loadAnswers_length (hi lo x : Vector Byte 11) : (loadAnswers hi lo x).length = 11 := List.length_ofFn

theorem loadAnswers_drop (hi lo x : Vector Byte 11) {n : Nat} (hn : n < 11) :
    (loadAnswers hi lo x).drop n = .ok hi[n] lo[n] x[n] :: (loadAnswers hi lo x).drop (n + 1) := by
  rw [List.drop_eq_getElem_cons (hn.trans_eq (loadAnswers_length hi lo x).symm)]
  simp only [loadAnswers, List.getElem_ofFn, Fin.getElem_fin]

theorem loadReads_take_reverse (dev : Byte) {n : Nat} (hn : n < 11) :
    ((loadReads dev).take (n + 1)).reverse
      = .busRead dev (calAddr ⟨n, hn⟩) 2 :: ((loadReads dev).take n).reverse := by
  rw [List.take_succ_eq_append_getElem (hn.trans_eq (loadReads_length dev).symm), List.reverse_append]
  simp only [loadReads, List.getElem_ofFn]
  rfl

theorem inInit_loadPhase (n : Nat) : inInit (loadPhase n) = true := by
  unfold loadPhase
  split <;> rfl

/-- An INIT in progress is not idle and waits for no timer. -/
theorem ne_of_inInit {p : Phase} (h : inInit p = true) : p ≠ .idle ∧ p ≠ .tWait ∧ p ≠ .pWait := by
  refine ⟨?_, ?_, ?_⟩ <;> rintro rfl <;> cases h

section
variable {s t : State} {hi lo x : Vector Byte 11} {rest : List BusAnswer} {n : Nat}

/-- One more pattern staged. -/
theorem staged_set {stage : CalFile} (hstage : ∀ i : Fin 11, i.val < n → stage[i] = calPair hi[i] lo[i])
    (hn : n < 11) :
    ∀ i : Fin 11, i.val < n + 1 → (stage.set n (calPair hi[n] lo[n]))[i] = calPair hi[i] lo[i] := by
  intro i hin
  rcases Nat.lt_succ_iff_lt_or_eq.mp hin with hlt | rfl
  · exact (Vector.getElem_set_ne hn i.isLt hlt.ne').trans (hstage i hlt)
  · exact Vector.getElem_set_self hn

theorem LoadProgress.nextAgent_eq (h : LoadProgress s hi lo x rest n t) : nextAgent t = .block := by
  obtain ⟨hidle, hwait⟩ := ne_of_inInit (h.phase ▸ inInit_loadPhase n)
  exact nextAgent_fair_block h.schedule h.afterSchedule (h.inv.busy_of_phase hidle) (h.inv.timer_eq_none rfl hwait)

theorem LoadProgress.start (hinv : RegInv s) (hsched : s.schedule = []) (hafter : s.afterSchedule = none)
    (hp : s.phase = .calRd 0) (hbus : s.bus = loadAnswers hi lo x ++ rest) : LoadProgress s hi lo x rest 0 s where
  inv := hinv
  schedule := hsched
  afterSchedule := hafter
  curOp := rfl
  phase := hp
  staged := nofun
  bus := hbus
  issued := rfl

/-- One read: the pair is staged and its transaction sent (R124). -/
protected theorem LoadProgress.step (h : LoadProgress s hi lo x rest n t) (hn : n < 11) :
    ∃ u, step t = .next u ∧ LoadProgress s hi lo x rest (n + 1) u := by
  have hbus : t.bus = .ok hi[n] lo[n] x[n] :: ((loadAnswers hi lo x).drop (n + 1) ++ rest) := by
    rw [h.bus, loadAnswers_drop hi lo x hn, List.cons_append]
  have hst := step_calRd_ok h.nextAgent_eq (h.phase.trans (dif_pos hn)) (busAnswer_cons _ hbus)
  exact ⟨_, hst,
    { inv := stepKeepsTheInvariant _ _ h.inv hst
      schedule := congrArg List.tail h.schedule
      afterSchedule := h.afterSchedule
      curOp := h.curOp
      phase := rfl
      staged := staged_set h.staged hn
      bus := congrArg List.tail hbus
      issued := by
        rw [loadReads_take_reverse _ hn, List.cons_append, ← h.issued, ← h.curOp]
        rfl }⟩

/-- The reads that are left, one after another. -/
protected theorem LoadProgress.run (h : LoadProgress s hi lo x rest n t) {k : Nat} (hk : n + k = 11) :
    ∃ u, LoadProgress s hi lo x rest 11 u ∧ Host.Core.run core (k + 1) t = Host.Core.run core 1 u := by
  induction k generalizing n t with
  | zero => exact ⟨t, hk ▸ h, rfl⟩
  | succ k ih =>
    obtain ⟨u, hu, hprogress⟩ := h.step (by omega)
    obtain ⟨v, hv, hrun⟩ := ih hprogress (by omega)
    exact ⟨v, hv, (run_succ_of_step hu _).trans hrun⟩

end

/-- The low two bits hold the whole of a mode that has passed the check of R223. -/
theorem commitMode_toNat {m : Byte} (h : m.toNat ≤ 3) : (m.extractLsb' 0 2).toNat = m.toNat := by
  rw [BitVec.extractLsb'_toNat, Nat.shiftRight_zero, Nat.mod_eq_of_lt (by omega)]

/-- Settles O59: eleven reads by `LoadProgress.run`, then the commit. -/
theorem initLoadsTheElevenPairs : Obligations.InitLoadsTheElevenPairs := by
  unfold Obligations.InitLoadsTheElevenPairs
  intro s hi lo x rest hinv hsched hafter hp hbus
  obtain ⟨hop, hm⟩ := hinv.init_op (by simp [hp, inInit])
  obtain ⟨u, hu, hrun⟩ := (LoadProgress.start hinv hsched hafter hp hbus).run (k := 11) rfl
  have hcommit := step_calCommit hu.nextAgent_eq hu.phase
  refine ⟨_, hrun.trans (run_succ_of_step hcommit 0), fun i => ?_, ?_, ?_, rfl, rfl, rfl, rfl, ?_, ?_, ?_⟩
  · exact (congrArg BitVec.toNat (hu.staged i i.isLt)).trans (calPair_toNat _ _)
  · exact (congrArg (fun c => (c.modeReq.extractLsb' 0 2).toNat) hu.curOp).trans (commitMode_toNat hm)
  · exact congrArg CurOp.dev hu.curOp
  · exact (congrArg (fun c => validMask c.op) hu.curOp).trans (congrArg validMask hop)
  · exact hu.bus.trans (by rw [List.drop_of_length_le (loadAnswers_length hi lo x).le, List.nil_append])
  · exact hu.issued.trans (by rw [List.take_of_length_le (loadReads_length _).le]; rfl)

end Sys2Proof.Machine
end

section
/-! PROOFS. R143, R157, R166: when PIPE fails, O40 and O41. -/

namespace Sys2Proof.Machine

/-- Settles O40: `pipe_temperatureDivisor`, `pipe_pressureDivisor` and `pipe_ok` are its three cases. -/
theorem pipelineErrorsInStepOrder : Obligations.PipelineErrorsInStepOrder := by
  unfold Obligations.PipelineErrorsInStepOrder
  intro cal ut up m info
  by_cases hden : valDEN (constants cal) ut.toNat = 0
  · simp [pipe_temperatureDivisor hden, hden, eq_comm]
  · by_cases hb4 : valB4 (constants cal) ut.toNat = 0
    · simp [pipe_pressureDivisor hden hb4, hden, hb4, eq_comm]
    · simp [pipe_ok hden hb4, hden, hb4]

/-- With AC5 = 0 and MD = 0 the temperature divisor is 0, whatever the raw temperature. -/
theorem valDEN_eq_zero {k : Constants} (hac5 : k.ac5 = 0) (hmd : k.md = 0) (ut : Int) : valDEN k ut = 0 := by
  rw [valDEN, valX1T, stepX1T, hac5, hmd, mul_zero]
  decide

/-- With AC4 = 0 the pressure divisor is 0 (R157's first corner case). -/
theorem valB4_eq_zero {k : Constants} (hac4 : k.ac4 = 0) (ut : Int) : valB4 k ut = 0 := by
  rw [valB4, stepB4, hac4, zero_mul]
  decide

/-- Settles O41: the two degenerate divisors, each in its case of PIPE. -/
theorem degenerateConstantsFail : Obligations.DegenerateConstantsFail := by
  unfold Obligations.DegenerateConstantsFail
  refine ⟨fun ut up m => pipe_temperatureDivisor (valDEN_eq_zero (by decide) (by decide) _),
    fun cal ut up m hzero hden => pipe_pressureDivisor hden (valB4_eq_zero ?_ _)⟩
  have hget : cal[(3 : Fin 11)] = 0 := hzero
  change calValue cal 3 = 0
  rw [calValue, hget]
  decide

end Sys2Proof.Machine
end

section
/-! PROOFS. R167: what COMPUTE's outcome depends on, and O48. -/

namespace Sys2Proof.Machine

/-- The block's turn in COMPUTE. -/
theorem step_compute {s : State} (hn : nextAgent s = .block) (hp : s.phase = .compute) :
    step s = .next (compute (popSchedule s)) := by
  rw [step_block hn, blockMove, popSchedule_phase, hp]

theorem computeMode_congr {s t : State} (hmode : s.mode = t.mode) (hop : s.curOp.op = t.curOp.op)
    (hreq : s.curOp.modeReq = t.curOp.modeReq) : computeMode s = computeMode t := by
  rw [computeMode, computeMode, hmode, hop, hreq]

theorem OpError.arithmetic_code_ne_zero (info : Byte) : (OpError.arithmetic info).code ≠ 0 := by
  simp [OpError.code]

/-- What the host can see of the outcome of COMPUTE. -/
structure SameOutcome (s t : State) : Prop where
  err : s.err = t.err
  rspValid : s.rspValid = t.rspValid
  errInfo : s.err ≠ 0 → s.errInfo = t.errInfo
  response : s.err = 0 → s.rspT10 = t.rspT10 ∧ s.rspTemp = t.rspTemp ∧ s.rspPress = t.rspPress ∧ s.rspAlt = t.rspAlt

/-- On an error the error alone counts; on success the reading and the operation. -/
theorem sameOutcome_compute {s t : State}
    (hpipe : pipe s.cal s.utL s.upL (computeMode s) = pipe t.cal t.utL t.upL (computeMode t))
    (hop : s.curOp.op = t.curOp.op) : SameOutcome (compute s) (compute t) := by
  cases hs : pipe s.cal s.utL s.upL (computeMode s) with
  | arithmeticError info =>
    rw [compute_error hs, compute_error (hpipe.symm.trans hs)]
    exact ⟨rfl, rfl, fun _ => rfl, fun h => absurd h (OpError.arithmetic_code_ne_zero info)⟩
  | ok r =>
    rw [compute_ok hs, compute_ok (hpipe.symm.trans hs)]
    exact ⟨rfl, congrArg validMask hop, fun h => absurd rfl h, fun _ => ⟨rfl, rfl, rfl, rfl⟩⟩

theorem compute_timer (s : State) : (compute s).timer = s.timer := by
  unfold compute
  split <;> rfl

/-- Settles O48: the operands of PIPE are equal, so `sameOutcome_compute` applies. -/
theorem computeDependsOnItsOperandsAlone : Obligations.ComputeDependsOnItsOperandsAlone := by
  unfold Obligations.ComputeDependsOnItsOperandsAlone
  intro s t s' t' hns hnt hps hpt hcal hut hup hmode hop hreq hs ht
  obtain rfl := Host.Outcome.next.inj ((step_compute hns hps).symm.trans hs)
  obtain rfl := Host.Outcome.next.inj ((step_compute hnt hpt).symm.trans ht)
  have hcm : computeMode (popSchedule s) = computeMode (popSchedule t) := computeMode_congr hmode hop hreq
  have hout : SameOutcome (compute (popSchedule s)) (compute (popSchedule t)) :=
    sameOutcome_compute (by simp only [popSchedule_cal, popSchedule_utL, popSchedule_upL, hcal, hut, hup, hcm]) hop
  exact ⟨compute_issued _, compute_timer _, hout.err, hout.rspValid, hout.errInfo, hout.response⟩

end Sys2Proof.Machine
end

section
/-! PROOFS. R10: sign and magnitude of a pattern, exact conversion of an integer, and division as a rounded quotient. -/

namespace Sys2Proof.Machine

theorem toNat_signed64 (neg : Bool) {M : Nat} (hM : M < 2 ^ 63) :
    (signed64 neg M).toNat = (if neg then 2 ^ 63 else 0) + M := by
  rw [signed64, BitVec.toNat_ofNat]
  split <;> omega

theorem unpack64_signed64 (neg : Bool) {M : Nat} (hM : M < 2 ^ 63) :
    unpack64 (signed64 neg M)
      = if M / 2 ^ 52 = 2047 then (if M % 2 ^ 52 = 0 then .inf neg else .nan)
        else if M / 2 ^ 52 = 0 then .finite neg (M % 2 ^ 52) (-1074)
        else .finite neg (2 ^ 52 + M % 2 ^ 52) ((M / 2 ^ 52 : Nat) - 1075) := by
  have hexp : (signed64 neg M).toNat / 2 ^ 52 % 2 ^ 11 = M / 2 ^ 52 := by
    rw [toNat_signed64 neg hM]
    split <;> omega
  have hfrac : (signed64 neg M).toNat % 2 ^ 52 = M % 2 ^ 52 := by
    rw [toNat_signed64 neg hM]
    split <;> omega
  have hneg : ((signed64 neg M).toNat / 2 ^ 63 == 1) = neg := by
    rw [toNat_signed64 neg hM]
    cases neg
    · simp
      omega
    · simp
      omega
  simp only [unpack64, hexp, hfrac, hneg]

/-- Every pattern is a sign and a magnitude. -/
theorem exists_signed64 (x : Binary64) : ∃ (neg : Bool) (M : Nat), M < 2 ^ 63 ∧ x = signed64 neg M := by
  have hx := x.isLt
  refine ⟨decide (2 ^ 63 ≤ x.toNat), x.toNat % 2 ^ 63, Nat.mod_lt _ (by decide), BitVec.eq_of_toNat_eq ?_⟩
  simp only [signed64, BitVec.toNat_ofNat, decide_eq_true_eq]
  split <;> omega

theorem signedMant_not (neg : Bool) (m : Nat) : (signedMant (!neg) m : ℚ) = -signedMant neg m := by
  cases neg <;> simp [signedMant]

/-- The other sign bit gives the other sign. -/
theorem value64_signed64_not (neg : Bool) {M : Nat} (hM : M < 2 ^ 63) :
    value64 (signed64 (!neg) M) = (value64 (signed64 neg M)).map (-·) := by
  simp only [value64, unpack64_signed64 _ hM]
  split_ifs <;> simp [signedMant_not]

/-- The finite values are closed under negation. -/
theorem exists_value64_neg {y : Binary64} {r : ℚ} (h : value64 y = some r) : ∃ y', value64 y' = some (-r) := by
  obtain ⟨neg, M, hM, rfl⟩ := exists_signed64 y
  exact ⟨signed64 (!neg) M, by rw [value64_signed64_not neg hM, h, Option.map_some]⟩

theorem roundRatio_lt (num den : Nat) : roundRatio num den < 2 ^ 63 := by
  unfold roundRatio
  split
  · decide
  · exact (min_le_right _ _).trans_lt (by decide)

/-- The sign applied to a magnitude. -/
def withSign (neg : Bool) (q : ℚ) : ℚ := if neg then -q else q

theorem value64_signed64_roundRatio {num den : Nat} {q : ℚ} (neg : Bool)
    (h : value64 (signed64 false (roundRatio num den)) = some q) :
    value64 (signed64 neg (roundRatio num den)) = some (withSign neg q) := by
  cases neg
  · exact h
  · rw [← Bool.not_false, value64_signed64_not false (roundRatio_lt num den), h, Option.map_some]
    rfl

/-- q is a binary64 value nearest to x. -/
def IsNearest (q x : ℚ) : Prop := ∀ (y : Binary64) (r : ℚ), value64 y = some r → |q - x| ≤ |r - x|

theorem IsNearest.neg {q x : ℚ} (h : IsNearest q x) : IsNearest (-q) (-x) := by
  intro y r hr
  obtain ⟨y', hy'⟩ := exists_value64_neg hr
  calc |-q - -x| = |q - x| := by rw [neg_sub_neg, abs_sub_comm]
    _ ≤ |-r - x| := h y' (-r) hy'
    _ = |r - -x| := by rw [← abs_neg, neg_sub, sub_neg_eq_add, sub_neg_eq_add, add_comm]

/-- 0 is a binary64 value, so none nearest to a number that is not negative is negative. -/
theorem IsNearest.nonneg {q x : ℚ} (h : IsNearest q x) (hx : 0 ≤ x) : 0 ≤ q := by
  have hzero : value64 0 = some 0 := by decide +kernel
  have hle := h 0 0 hzero
  rw [zero_sub, abs_neg, abs_of_nonneg hx] at hle
  linarith [neg_le_abs (q - x)]

/-- A rounded ratio with a sign is the nearest value, below the overflow bound (log entry 19). -/
theorem roundRatio_isNearest (neg : Bool) {num den : Nat} (hden : 0 < den)
    (h : num < (2 ^ 54 - 1) * 2 ^ 970 * den) :
    ∃ q, value64 (signed64 neg (roundRatio num den)) = some q ∧ IsNearest q (withSign neg (num / den)) := by
  obtain ⟨q, hq, hnear⟩ := (roundingIsToNearest num den hden).1 h
  have hpos : IsNearest q (num / den) := fun y r hr => (hnear y r hr).1
  refine ⟨_, value64_signed64_roundRatio neg hq, ?_⟩
  cases neg
  · exact hpos
  · exact hpos.neg

/-! Exact conversion: an integer of at most 53 bits is a multiple of its unit in the last place. -/

theorem two_pow_53_lt_overflow_bound : (2 : ℚ) ^ 53 < (2 ^ 53 - 1 / 2) * 2 ^ (971 : Int) := by
  have hpow : (2 : ℚ) ^ (1 : Int) ≤ 2 ^ (971 : Int) := zpow_le_zpow_right₀ one_le_two (by decide)
  rw [zpow_one] at hpow
  generalize (2 : ℚ) ^ (971 : Int) = p at hpow ⊢
  linarith

theorem ratioUlp_natCast_nonpos {n : Nat} (h0 : n ≠ 0) (h : n < 2 ^ 53) : ratioUlp n 1 ≤ 0 := by
  by_contra hpos
  have hle := ulps_le_ratio h0 one_ne_zero (by omega)
  have hpow : (2 : ℚ) ^ (1 : Int) ≤ 2 ^ ratioUlp n 1 := zpow_le_zpow_right₀ one_le_two (by omega)
  have hn : (n : ℚ) < 2 ^ 53 := by exact_mod_cast h
  rw [Nat.cast_one, div_one] at hle
  linarith

theorem roundedRatio_natCast {n : Nat} (h0 : n ≠ 0) (h : n < 2 ^ 53) : roundedRatio n 1 = n := by
  obtain ⟨k, hk⟩ := Int.eq_ofNat_of_zero_le (neg_nonneg.mpr (ratioUlp_natCast_nonpos h0 h))
  have hmultiple : ((n * 2 ^ k : Int) : ℚ) * 2 ^ ratioUlp n 1 = n := by
    rw [← neg_neg (ratioUlp n 1), hk]
    push_cast
    rw [zpow_neg, zpow_natCast]
    field_simp
  obtain ⟨hnear, -⟩ := ratioSignificand_nearest_multiple n one_ne_zero (n * 2 ^ k)
  rw [hmultiple, Nat.cast_one, div_one, sub_self, abs_zero] at hnear
  exact sub_eq_zero.mp (abs_nonpos_iff.mp hnear)

theorem withSign_natAbs (v : Int) : withSign (decide (v < 0)) v.natAbs = v := by
  unfold withSign
  split
  · next h =>
    rw [Nat.cast_natAbs, abs_of_neg (of_decide_eq_true h), Int.cast_neg, neg_neg]
  · next h =>
    rw [Nat.cast_natAbs, abs_of_nonneg (by simpa using h)]

/-- R168: `f64` of an integer of at most 53 bits is exact. -/
theorem value64_f64OfInt {v : Int} (h : v.natAbs < 2 ^ 53) : value64 (f64OfInt v) = some (v : ℚ) := by
  rw [← withSign_natAbs v]
  refine value64_signed64_roundRatio _ ?_
  rcases eq_or_ne v.natAbs 0 with h0 | h0
  · rw [h0]
    decide +kernel
  · have hn : (v.natAbs : ℚ) < 2 ^ 53 := by exact_mod_cast h
    have hbound : (v.natAbs : ℚ) / (1 : Nat) < (2 ^ 53 - 1 / 2) * 2 ^ (971 : Int) := by
      rw [Nat.cast_one, div_one]
      exact hn.trans two_pow_53_lt_overflow_bound
    rw [(value64_roundRatio h0 one_ne_zero hbound).1, roundedRatio_natCast h0 h]

/-! Division. -/

theorem value64_eq_some {x : Binary64} {q : ℚ} (h : value64 x = some q) :
    ∃ s m e, unpack64 x = .finite s m e ∧ q = withSign s m * (2 : ℚ) ^ e := by
  unfold value64 at h
  split at h
  · cases h
  · cases h
  · next s m e hx =>
    refine ⟨s, m, e, hx, ?_⟩
    rw [← Option.some.inj h]
    cases s <;> simp [signedMant, withSign]

theorem withSign_div (s t : Bool) (a b : ℚ) : withSign (s ^^ t) (a / b) = withSign s a / withSign t b := by
  cases s <;> cases t <;> simp [withSign, neg_div, div_neg]

theorem withSign_mul (s : Bool) (a b : ℚ) : withSign s (a * b) = withSign s a * b := by
  cases s <;> simp [withSign]

theorem abs_withSign (s : Bool) (a : ℚ) : |withSign s a| = |a| := by
  cases s <;> simp [withSign]

/-- The two integers whose ratio `f64Div` rounds have the ratio of the operands, up to its sign. -/
theorem withSign_scaled_ratio (s t : Bool) (m n : Nat) (e f : Int) :
    withSign (s ^^ t) ((m * 2 ^ (e - f).toNat : Nat) / (n * 2 ^ (f - e).toNat : Nat))
      = withSign s m * (2 : ℚ) ^ e / (withSign t n * 2 ^ f) := by
  have hscale := scaled_ratio m n (f - e)
  rw [neg_sub] at hscale
  rw [hscale, div_eq_mul_inv, ← zpow_neg, neg_sub, withSign_mul, withSign_div, zpow_sub₀ two_ne_zero,
    div_mul_div_comm]

/-- R10: `/f` of two finite values gives the nearest value to their quotient, below the overflow bound (log entry 19). -/
theorem f64Div_isNearest {a b : Binary64} {x y : ℚ} (ha : value64 a = some x) (hb : value64 b = some y) (hy : y ≠ 0)
    (hbound : |x / y| < (2 ^ 53 - 1 / 2) * 2 ^ (971 : Int)) :
    ∃ q, value64 (f64Div a b) = some q ∧ IsNearest q (x / y) := by
  obtain ⟨s, m, e, hua, rfl⟩ := value64_eq_some ha
  obtain ⟨t, n, f, hub, rfl⟩ := value64_eq_some hb
  have hn : n ≠ 0 := by
    rintro rfl
    cases t <;> simp [withSign] at hy
  have hdiv : f64Div a b
      = signed64 (s ^^ t) (roundRatio (m * 2 ^ (e - f).toNat) (n * 2 ^ (f - e).toNat)) := by
    simp only [f64Div, hua, hub, if_neg hn]
  rw [hdiv, ← withSign_scaled_ratio]
  rw [← withSign_scaled_ratio, abs_withSign, abs_of_nonneg (by positivity)] at hbound
  have hden : n * 2 ^ (f - e).toNat ≠ 0 := by positivity
  exact roundRatio_isNearest _ (Nat.pos_of_ne_zero hden) ((ratio_lt_overflow_iff _ hden).mp hbound)

end Sys2Proof.Machine
end

section
/-! PROOFS. R146 and R164: TEMP_C and ALT, O46 and O44. -/

namespace Sys2Proof.Machine

theorem f64Literal_10 : f64Literal 10 1 = 0x4024000000000000 := by decide +kernel
theorem f64Literal_44330 : f64Literal 44330 1 = 0x40E5A54000000000 := by decide +kernel
theorem f64Literal_1 : f64Literal 1 1 = 0x3FF0000000000000 := by decide +kernel
theorem f64Literal_101325 : f64Literal 101325 1 = 0x40F8BCD000000000 := by decide +kernel
theorem f64Literal_1903 : f64Literal 1903 10000 = 0x3FC85BC01A36E2EB := by decide +kernel

/-- A literal that is an integer is the conversion of that integer, so both operands of the quotient are exact. -/
theorem f64Div_f64OfInt_isNearest {v : Int} {d : Nat} (hv : v.natAbs < 2 ^ 53) (hd0 : 0 < d) (hd : d < 2 ^ 53) :
    ∃ q, value64 (f64Div (f64OfInt v) (f64Literal d 1)) = some q ∧ IsNearest q (v / d) := by
  have hlit : value64 (f64Literal d 1) = some (d : ℚ) := value64_f64OfInt (v := d) hd
  have hpos : (1 : ℚ) ≤ d := by exact_mod_cast hd0
  refine f64Div_isNearest (value64_f64OfInt hv) hlit (by positivity) ?_
  have habs : |(v : ℚ)| < 2 ^ 53 := by
    rw [← Int.cast_abs, Int.abs_eq_natAbs]
    exact_mod_cast hv
  calc |(v : ℚ) / d| = |(v : ℚ)| / d := by rw [abs_div, Nat.abs_cast]
    _ ≤ |(v : ℚ)| := div_le_self (abs_nonneg _) hpos
    _ < 2 ^ 53 := habs
    _ < (2 ^ 53 - 1 / 2) * 2 ^ (971 : Int) := two_pow_53_lt_overflow_bound

/-- Settles O46: T10 and 10.0 are exact, so their quotient is nearest to T10 / 10. -/
theorem tempCIsNearestToTenths : Obligations.TempCIsNearestToTenths := by
  unfold Obligations.TempCIsNearestToTenths
  refine ⟨fun t => congrArg (f64Div (f64OfInt t)) f64Literal_10, fun t hlow hhigh => ?_, by decide +kernel⟩
  exact f64Div_f64OfInt_isNearest (d := 10) (by omega) (by decide) (by decide)

/-- Settles O44: the ratio is nearest to PRESS / 101325, which is not negative; the corner cases are evaluated. -/
theorem altitudeOfPressure : Obligations.AltitudeOfPressure := by
  unfold Obligations.AltitudeOfPressure
  refine ⟨fun press => ?_, fun press hlow hhigh => ?_, by decide +kernel, by decide +kernel, by decide +kernel,
    by decide +kernel⟩
  · rw [stepALT, f64Literal_44330, f64Literal_1, f64Literal_101325, f64Literal_1903]
  · obtain ⟨q, hq, hnear⟩ := f64Div_f64OfInt_isNearest (v := press) (d := 101325) (by omega) (by decide) (by decide)
    exact ⟨q, f64Literal_101325 ▸ hq, hnear.nonneg (by positivity)⟩

end Sys2Proof.Machine
end

section
/-! PROOFS. R168: the ranges of the pipeline's steps, and O43. -/

namespace Sys2Proof.Machine

/-- The range of an i32. -/
def InS32 (v : Int) : Prop := -(2 ^ 31) ≤ v ∧ v ≤ 2 ^ 31 - 1

theorem inS32_s32 (v : Int) : InS32 (s32 v) := s32_range v

/-- A shift right takes an i32 no further from 0, and -1 to -1. -/
theorem InS32.asr {v : Int} (h : InS32 v) (n : Nat) : InS32 (asr v n) := by
  obtain ⟨hlow, hhigh⟩ := h
  have hpos : (0 : Int) < ((2 ^ n : Nat) : Int) := by positivity
  unfold Machine.asr
  rcases le_or_gt 0 v with hv | hv
  · have hnonneg := Int.ediv_nonneg hv hpos.le
    exact ⟨by omega, (Int.ediv_le_self _ hv).trans hhigh⟩
  · have hneg := Int.ediv_neg_of_neg_of_pos hv hpos
    refine ⟨hlow.trans ?_, by omega⟩
    exact (Int.le_ediv_iff_mul_le hpos).mpr (mul_le_of_one_le_right hv.le hpos)

theorem inS32_tdiv_four {a : Int} (h : InS32 a) : InS32 (tdiv a 4) := by
  obtain ⟨hlow, hhigh⟩ := h
  have habs : (a.tdiv 4).natAbs = a.natAbs / 4 := Int.natAbs_tdiv a 4
  unfold InS32 tdiv
  omega

/-- R143: MC × 2^11 does not wrap and stays clear of -2^31, so its quotient by any divisor is an i32. -/
theorem inS32_stepX2T {mc : Int} (hlow : -32768 ≤ mc) (hhigh : mc ≤ 32767) (den : Int) :
    InS32 (stepX2T mc den) := by
  have hshift : shl32 mc 11 = mc * 2048 := s32_of_fits (by omega) (by omega)
  have habs := Int.natAbs_tdiv_le_natAbs (mc * 2048) den
  unfold InS32 stepX2T tdiv
  rw [hshift]
  omega

theorem calValue_range_of_signed {i : Fin 11} (h : calSigned i = true) (cal : CalFile) :
    -32768 ≤ calValue cal i ∧ calValue cal i ≤ 32767 := by
  rw [calValue, if_pos h]
  exact sext16_range _

section
variable (k : Constants) (ut up : Int) (mode : Nat)

theorem inS32_temperatureDivisor : ∀ v ∈ [valX1T k ut, valDEN k ut], InS32 v := by
  simp only [List.forall_mem_cons]
  exact ⟨(inS32_s32 _).asr _, inS32_s32 _, nofun⟩

theorem inS32_pressureDivisor (hmc : -32768 ≤ k.mc ∧ k.mc ≤ 32767) :
    ∀ v ∈ [valX2T k ut, valB5 k ut, valT10 k ut, valB6 k ut, valSQ k ut, valX1A k ut, valX2A k ut, valX3A k ut,
      valB3NUM k ut mode, valB3 k ut mode, valX1B k ut, valX2B k ut, valX3B k ut], InS32 v := by
  simp only [List.forall_mem_cons]
  exact ⟨inS32_stepX2T hmc.1 hmc.2 _, inS32_s32 _, (inS32_s32 _).asr _, inS32_s32 _, (inS32_s32 _).asr _,
    (inS32_s32 _).asr _, (inS32_s32 _).asr _, inS32_s32 _, inS32_s32 _, inS32_tdiv_four (inS32_s32 _),
    (inS32_s32 _).asr _, (inS32_s32 _).asr _, (inS32_s32 _).asr _, nofun⟩

theorem inS32_pressure :
    ∀ v ∈ [valP k ut up mode, valX1C0 k ut up mode, valX1C k ut up mode, valX2C k ut up mode], InS32 v := by
  simp only [List.forall_mem_cons]
  exact ⟨inS32_s32 _, inS32_s32 _, (inS32_s32 _).asr _, (inS32_s32 _).asr _, nofun⟩

theorem valT10_range : -(2 ^ 27) ≤ valT10 k ut ∧ valT10 k ut ≤ 2 ^ 27 - 1 := by
  have h := s32_range (valB5 k ut + 8)
  unfold valT10 stepT10 asr
  omega

theorem valB4_range : 0 ≤ valB4 k ut ∧ valB4 k ut ≤ 2 ^ 17 - 1 := by
  have h := u32_range (k.ac4 * u32 (valX3B k ut + 32768))
  unfold valB4 stepB4 lsr
  omega

theorem valB7_range : 0 ≤ valB7 k ut up mode ∧ valB7 k ut up mode ≤ 2 ^ 32 - 1 := u32_range _

theorem valPRESS_range : 0 ≤ valPRESS k ut up mode ∧ valPRESS k ut up mode ≤ 2 ^ 32 - 1 := u32_range _

end

/-- Settles O43: the range of each step, in the order in which a run computes them. -/
theorem pipelineRanges : Obligations.PipelineRanges := by
  unfold Obligations.PipelineRanges
  rintro cal utL upL m k ut up mode rfl - - -
  obtain ⟨hT10low, hT10high⟩ := valT10_range (constants cal) ut
  obtain ⟨hB4low, hB4high⟩ := valB4_range (constants cal) ut
  obtain ⟨hB7low, hB7high⟩ := valB7_range (constants cal) ut up mode
  obtain ⟨hPlow, hPhigh⟩ := valPRESS_range (constants cal) ut up mode
  refine ⟨inS32_temperatureDivisor _ _, fun _ => ⟨?_, hT10low, hT10high, hB4low, hB4high, ?_⟩,
    fun _ hb4 => ⟨inS32_pressure _ _ _ _, by omega, hB4high, hB7low, hB7high, hPlow, hPhigh, ?_⟩⟩
  · exact inS32_pressureDivisor _ _ _ (calValue_range_of_signed (i := 9) rfl cal)
  · exact value64_f64OfInt (by omega)
  · exact value64_f64OfInt (by omega)

end Sys2Proof.Machine
end

section
/-! PROOFS. R169: each step of the unbounded formulas is the step of PIPE where no wrap changes anything, and O47. -/

namespace Sys2Proof.Machine

theorem s32_of_fitsS32 {v : Int} (h : fitsS32 v = true) : s32 v = v := by
  simp only [fitsS32, Bool.and_eq_true, decide_eq_true_eq] at h
  exact s32_of_fits h.1 h.2

theorem u32_of_fitsU32 {v : Int} (h : fitsU32 v = true) : u32 v = v := by
  simp only [fitsU32, Bool.and_eq_true, decide_eq_true_eq] at h
  exact u32_of_fits h.1 h.2

section
variable {k : Constants} {ut up : Int} {mode : Nat}

theorem wideX1T_eq (h : noWrapTempDivisor k ut = true) : wideX1T k ut = valX1T k ut := by
  simp only [noWrapTempDivisor, Bool.and_eq_true] at h
  rw [wideX1T, valX1T, stepX1T, s32_of_fitsS32 h.1]

theorem wideDEN_eq (h : noWrapTempDivisor k ut = true) : wideDEN k ut = valDEN k ut := by
  rw [wideDEN, wideX1T_eq h, valDEN, stepDEN]
  simp only [noWrapTempDivisor, Bool.and_eq_true] at h
  rw [s32_of_fitsS32 h.2]

/-- R143 to R151 and R153 to R156. -/
theorem wideT10_wideX3A_wideB4_eq (ht : noWrapTempDivisor k ut = true) (h : noWrapPressureDivisor k ut = true) :
    wideT10 k ut = valT10 k ut ∧ wideX3A k ut = valX3A k ut ∧ wideB4 k ut = valB4 k ut := by
  simp only [noWrapPressureDivisor, Bool.and_eq_true, and_assoc] at h
  obtain ⟨hmc, hb5Fits, ht10Fits, hb6Fits, hsqFits, hx1aFits, hx2aFits, hx3aFits, hx1bFits, hx2bFits, hx3bFits, hsumFits,
    hb4Fits⟩ := h
  have hshift : shl32 k.mc 11 = k.mc * 2 ^ 11 := (shl32_eq_s32_mul _ _).trans (s32_of_fitsS32 hmc)
  have hx2t : wideX2T k ut = valX2T k ut := by rw [wideX2T, wideDEN_eq ht, valX2T, stepX2T, hshift]
  have hb5 : wideB5 k ut = valB5 k ut := by rw [wideB5, wideX1T_eq ht, hx2t, valB5, stepB5, s32_of_fitsS32 hb5Fits]
  have ht10 : wideT10 k ut = valT10 k ut := by rw [wideT10, hb5, valT10, stepT10, s32_of_fitsS32 ht10Fits]
  have hb6 : wideB6 k ut = valB6 k ut := by rw [wideB6, hb5, valB6, stepB6, s32_of_fitsS32 hb6Fits]
  have hsq : wideSQ k ut = valSQ k ut := by rw [wideSQ, hb6, valSQ, stepSQ, s32_of_fitsS32 hsqFits]
  have hx1a : asr (k.b2 * wideSQ k ut) 11 = valX1A k ut := by rw [hsq, valX1A, stepX1A, s32_of_fitsS32 hx1aFits]
  have hx2a : asr (k.ac2 * wideB6 k ut) 11 = valX2A k ut := by rw [hb6, valX2A, stepX2A, s32_of_fitsS32 hx2aFits]
  have hx3a : wideX3A k ut = valX3A k ut := by rw [wideX3A, hx1a, hx2a, valX3A, stepX3A, s32_of_fitsS32 hx3aFits]
  have hx1b : asr (k.ac3 * wideB6 k ut) 13 = valX1B k ut := by rw [hb6, valX1B, stepX1B, s32_of_fitsS32 hx1bFits]
  have hx2b : asr (k.b1 * wideSQ k ut) 16 = valX2B k ut := by rw [hsq, valX2B, stepX2B, s32_of_fitsS32 hx2bFits]
  have hx3b : wideX3B k ut = valX3B k ut := by rw [wideX3B, hx1b, hx2b, valX3B, stepX3B, s32_of_fitsS32 hx3bFits]
  have hb4 : wideB4 k ut = valB4 k ut := by
    rw [wideB4, hx3b, valB4, stepB4, u32_of_fitsU32 hsumFits, u32_of_fitsU32 hb4Fits]
    rfl
  exact ⟨ht10, hx3a, hb4⟩

/-- R152 and R158: B7 does not wrap and stays below 2^31, so R159 takes its first branch. -/
theorem wideB7_eq_and_bounds (hx3a : wideX3A k ut = valX3A k ut) (h : noWrapB3 k ut up mode = true) :
    wideB7 k ut up mode = valB7 k ut up mode ∧ 0 ≤ valB7 k ut up mode ∧ valB7 k ut up mode < 0x80000000 := by
  simp only [noWrapB3, Bool.and_eq_true, decide_eq_true_eq, and_assoc] at h
  obtain ⟨hsumFits, hshiftFits, hnumFits, hlow, hhigh⟩ := h
  have hb3 : wideB3 k ut mode = valB3 k ut mode := by
    rw [wideB3, hx3a, valB3, stepB3, valB3NUM, stepB3NUM, s32_of_fitsS32 hsumFits, shl32, s32_of_fitsS32 hshiftFits,
      s32_of_fitsS32 hnumFits]
  have hb7 : valB7 k ut up mode = (up - valB3 k ut mode) * lsr 50000 mode := u32_of_fits hlow (by omega)
  exact ⟨by rw [wideB7, hb3, hb7]; rfl, hb7 ▸ hlow, by omega⟩

/-- R159 to R163. -/
theorem widePRESS_eq (hb4 : wideB4 k ut = valB4 k ut) (hx3a : wideX3A k ut = valX3A k ut)
    (h3 : noWrapB3 k ut up mode = true) (h : noWrapPressure k ut up mode = true) :
    widePRESS k ut up mode = valPRESS k ut up mode := by
  obtain ⟨hb7, hlow, hhigh⟩ := wideB7_eq_and_bounds hx3a h3
  simp only [noWrapPressure, Bool.and_eq_true, and_assoc] at h
  obtain ⟨hpFits, hx1c0Fits, hx1cFits, hx2cFits, hsumFits, hpressFits⟩ := h
  have hp : wideP k ut up mode = valP k ut up mode := by
    rw [valP, stepP, s32_of_fitsS32 hpFits, stepPu, if_pos hhigh, wideP, hb7, hb4, mul_comm]
    exact Int.tdiv_eq_ediv_of_nonneg (by omega)
  have hx1c0 : asr (valP k ut up mode) 8 * asr (valP k ut up mode) 8 = valX1C0 k ut up mode := by
    rw [valX1C0, stepX1C0, s32_of_fitsS32 hx1c0Fits]
  have hx1c : asr (valX1C0 k ut up mode * 3038) 16 = valX1C k ut up mode := by
    rw [valX1C, stepX1C, s32_of_fitsS32 hx1cFits]
  have hx2c : asr (-7357 * valP k ut up mode) 16 = valX2C k ut up mode := by
    rw [valX2C, stepX2C, s32_of_fitsS32 hx2cFits]
  rw [widePRESS, hp, hx1c0, hx1c, hx2c, valPRESS, stepPRESS, s32_of_fitsS32 hsumFits, u32_of_fitsU32 hpressFits]

/-- On NW the unbounded formulas give what PIPE's steps give, zero divisors included. -/
theorem widePipe_of_noWrap (h : noWrap k ut up mode = true) :
    widePipe k ut up mode
      = if valDEN k ut = 0 then .zeroDivisor 0x01
        else if valB4 k ut = 0 then .zeroDivisor 0x02
        else .ok (valT10 k ut) (valPRESS k ut up mode) := by
  simp only [noWrap, Bool.and_eq_true, Bool.or_eq_true, decide_eq_true_eq] at h
  obtain ⟨ht, hrest⟩ := h
  rw [widePipe, wideDEN_eq ht]
  split
  · rfl
  · next hden =>
    obtain ⟨⟨hdivisor, hb3⟩, hrest⟩ := hrest.resolve_left hden
    obtain ⟨ht10, hx3a, hb4⟩ := wideT10_wideX3A_wideB4_eq ht hdivisor
    rw [hb4]
    split
    · rfl
    · next hb4ne => rw [ht10, widePRESS_eq hb4 hx3a hb3 (hrest.resolve_left hb4ne)]

end

/-- Settles O47: the three results by `widePipe_of_noWrap`, each that of PIPE in its case; the examples are evaluated. -/
theorem wideFormulaAgreesOnNoWrapDomain : Obligations.WideFormulaAgreesOnNoWrapDomain := by
  unfold Obligations.WideFormulaAgreesOnNoWrapDomain
  refine ⟨fun cal ut up m h => ?_, ?_⟩
  · rw [widePipe_of_noWrap h]
    split_ifs with hden hb4
    · exact ⟨nofun, fun info hinfo => WideResult.zeroDivisor.inj hinfo ▸ pipe_temperatureDivisor hden⟩
    · exact ⟨nofun, fun info hinfo => WideResult.zeroDivisor.inj hinfo ▸ pipe_pressureDivisor hden hb4⟩
    · refine ⟨fun t10 press hok => ?_, nofun⟩
      obtain ⟨rfl, rfl⟩ := WideResult.ok.inj hok
      exact pipe_ok hden hb4
  · rintro k rfl
    decide +kernel

end Sys2Proof.Machine
end

section
/-! PROOFS. The block's turn in each phase of a reading (R190 to R198): O19, O20, O24, O25, O26 and O27. -/

namespace Sys2Proof.Machine

section
variable {s : State}

/-! What the phase decides (R190). -/

theorem blockMove_tCmd (hp : s.phase = .tCmd) : blockMove s = tCmd s := by rw [blockMove, hp]
theorem blockMove_tWait (hp : s.phase = .tWait) : blockMove s = waitFor .temperature s := by rw [blockMove, hp, tWait]
theorem blockMove_tRd (hp : s.phase = .tRd) : blockMove s = tRd s := by rw [blockMove, hp]
theorem blockMove_pCmd (hp : s.phase = .pCmd) : blockMove s = pCmd s.mode s := by rw [blockMove, hp]
theorem blockMove_pWait (hp : s.phase = .pWait) : blockMove s = waitFor (.pressure s.mode) s := by
  rw [blockMove, hp, pWait]
theorem blockMove_pRd (hp : s.phase = .pRd) : blockMove s = pRd s := by rw [blockMove, hp]
theorem blockMove_compute (hp : s.phase = .compute) : blockMove s = compute s := by rw [blockMove, hp]

/-! The command bytes (R191, R195). -/

theorem exec_readTemp_of_phase (hp : s.phase = .tCmd) : exec .readTemp s = .next (tCmd s) :=
  congrArg Host.Outcome.next (if_pos hp)

theorem exec_readPressure_of_emitted (hp : s.phase = .pCmd) :
    exec (.readPressure s.mode) s = .next (pCmd s.mode s) :=
  congrArg Host.Outcome.next (if_pos ⟨hp, rfl⟩)

theorem readPressureByte_toNat (m : BitVec 2) : (readPressureByte m).toNat = 0x34 + m.toNat * 2 ^ 6 := by
  revert m
  decide

/-! The raw pressure (R197). -/

/-- R105's formula is below 2^24, so nothing of it is lost. -/
theorem rawPressure_eq_ofNat (d0 d1 d2 : Byte) (m : BitVec 2) :
    rawPressure (upTriple d0 d1 d2) m
      = BitVec.ofNat 24 ((d0.toNat * 2 ^ 16 + d1.toNat * 2 ^ 8 + d2.toNat) / 2 ^ (8 - m.toNat)) := by
  rw [← upTriple_toNat, ← rawPressure_toNat, BitVec.ofNat_toNat, BitVec.setWidth_eq]

/-! The mode and the mask of COMPUTE (R198, R229). -/

theorem computeMode_of_isReading (h : isReading s.curOp.op = true) : computeMode s = s.mode := by
  unfold computeMode
  cases hop : s.curOp.op with
  | comp => simp [hop, isReading] at h
  | init | readc | gett | getp | geta => rfl

theorem computeMode_of_comp {m : BitVec 2} (hop : s.curOp.op = .comp) (hm : m.toNat = s.curOp.modeReq.toNat) :
    computeMode s = m := by
  have hreq : computeMode s = s.curOp.modeReq.setWidth 2 := by rw [computeMode, hop]
  rw [hreq]
  apply BitVec.eq_of_toNat_eq
  rw [BitVec.toNat_setWidth, ← hm, Nat.mod_eq_of_lt m.isLt]

/-! The waits (R199). -/

theorem waitLowerBound_le_waitDuration (w : WaitKind) : waitLowerBound w ≤ waitDuration w := Nat.le_add_right _ _

/-- The block's turn between the request and the signal. -/
theorem blockMove_waiting (hp : s.phase = .tWait ∨ s.phase = .pWait) (hw : s.timer ≠ none) : blockMove s = s := by
  obtain ⟨w, hw⟩ := Option.ne_none_iff_exists'.mp hw
  rcases hp with hp | hp
  · rw [blockMove_tWait hp, waitFor_again hw]
  · rw [blockMove_pWait hp, waitFor_again hw]

end

/-- Settles O19: the write of T_CMD by its answer. -/
theorem readTempWritesControl : Obligations.ReadTempWritesControl := by
  unfold Obligations.ReadTempWritesControl
  intro s hp
  rw [exec_readTemp_of_phase hp]
  refine ⟨fun d0 d1 d2 hok => ?_, fun code herr => ?_⟩
  · exact congrArg Host.Outcome.next (busWriteOr_ok hok)
  · exact congrArg Host.Outcome.next (busWriteOr_error herr)

/-- Settles O20: only the byte of MODE has the number of R195; then the write of P_CMD by its answer. -/
theorem readPressureWritesControl : Obligations.ReadPressureWritesControl := by
  unfold Obligations.ReadPressureWritesControl
  intro s b hp hb
  obtain rfl : b = readPressureByte s.mode := BitVec.eq_of_toNat_eq (hb.trans (readPressureByte_toNat s.mode).symm)
  rw [exec_readPressure_of_emitted hp]
  refine ⟨fun d0 d1 d2 hok => ?_, fun code herr => ?_⟩
  · exact congrArg Host.Outcome.next (busWriteOr_ok hok)
  · exact congrArg Host.Outcome.next (busWriteOr_error herr)

/-- Settles O24: the request, the turns between, and the signal, each by the phase and the timer; then the bounds of R199. -/
theorem waitsRunFromRequestToSignal : Obligations.WaitsRunFromRequestToSignal := by
  unfold Obligations.WaitsRunFromRequestToSignal
  refine ⟨fun s hn hp hw => ?_, fun s hn hp hw => ?_, fun s hn hp hw => ?_, fun s hn hp hw => ?_,
    fun s hn hp hw => ?_, waitLowerBound_le_waitDuration .temperature, waitLowerBound_le_waitDuration (.pressure 0),
    waitLowerBound_le_waitDuration (.pressure 1), waitLowerBound_le_waitDuration (.pressure 2),
    waitLowerBound_le_waitDuration (.pressure 3)⟩
  · rw [step_block hn, blockMove_tWait (s := popSchedule s) hp, waitFor_first (s := popSchedule s) hw]
    rfl
  · rw [step_block hn, blockMove_pWait (s := popSchedule s) hp, waitFor_first (s := popSchedule s) hw]
    rfl
  · rw [step_block hn, blockMove_waiting (s := popSchedule s) hp hw]
    rfl
  · rw [step_timer hn, timerSignal_some (s := popSchedule s) hw, popSchedule_phase, hp]
    rfl
  · rw [step_timer hn, timerSignal_some (s := popSchedule s) hw, popSchedule_phase, hp]
    rfl

/-- Settles O25: the read of T_RD by its answer. -/
theorem tRdLatchesTheRawTemperature : Obligations.TRdLatchesTheRawTemperature := by
  unfold Obligations.TRdLatchesTheRawTemperature
  intro s hn hp
  rw [step_block hn, blockMove_tRd (s := popSchedule s) hp]
  refine ⟨fun d0 d1 d2 hok => ?_, fun code herr => ?_⟩
  · exact congrArg Host.Outcome.next (busReadOr_ok (s := popSchedule s) hok)
  · exact congrArg Host.Outcome.next (busReadOr_error (s := popSchedule s) herr)

/-- Settles O26: the read of P_RD by its answer. -/
theorem pRdLatchesTheRawPressure : Obligations.PRdLatchesTheRawPressure := by
  unfold Obligations.PRdLatchesTheRawPressure
  intro s hn hp
  rw [step_block hn, blockMove_pRd (s := popSchedule s) hp]
  refine ⟨fun d0 d1 d2 hok => ?_, fun code herr => ?_⟩
  · rw [← rawPressure_eq_ofNat]
    exact congrArg Host.Outcome.next (busReadOr_ok (s := popSchedule s) hok)
  · exact congrArg Host.Outcome.next (busReadOr_error (s := popSchedule s) herr)

/-- Settles O27: each operation has its mode and its mask, and PIPE's result decides. -/
theorem computeWritesTheResponseOrFails : Obligations.ComputeWritesTheResponseOrFails := by
  unfold Obligations.ComputeWritesTheResponseOrFails
  intro s m mask hn hp hop
  obtain ⟨hmode, hmask⟩ : computeMode s = m ∧ validMask s.curOp.op = mask := by
    rcases hop with ⟨h, rfl, rfl⟩ | ⟨h, rfl, rfl⟩ | ⟨h, rfl, rfl⟩ | ⟨h, rfl, rfl⟩ | ⟨h, hm, rfl⟩
    case inr.inr.inr.inr => exact ⟨computeMode_of_comp h hm, congrArg validMask h⟩
    all_goals exact ⟨computeMode_of_isReading (congrArg isReading h), congrArg validMask h⟩
  subst hmode hmask
  rw [step_compute hn hp]
  refine ⟨fun r hok => ?_, fun info herr => ?_⟩
  · exact congrArg Host.Outcome.next (compute_ok (s := popSchedule s) hok)
  · exact congrArg Host.Outcome.next (compute_error (s := popSchedule s) herr)

end Sys2Proof.Machine
end

section
/-! PROOFS. The response registers change only in a COMPUTE that succeeds: O54. -/

namespace Sys2Proof.Machine

/-- The response registers (R36 to R39), in one tuple. -/
def responseOf (s : State) := (s.rspT10, s.rspTemp, s.rspPress, s.rspAlt)

theorem responseOf_eq_iff {s t : State} :
    responseOf t = responseOf s
      ↔ t.rspT10 = s.rspT10 ∧ t.rspTemp = s.rspTemp ∧ t.rspPress = s.rspPress ∧ t.rspAlt = s.rspAlt := by
  simp only [responseOf, Prod.mk.injEq]

theorem responseOf_of_untouched {s t : State} (h : untouched t = untouched s) : responseOf t = responseOf s := by
  simp only [untouched, Prod.mk.injEq] at h
  rw [responseOf_eq_iff]
  tauto

theorem responseOf_busReadOr {info dev reg : Byte} {n : Nat} {next : Byte → Byte → Byte → State → State}
    (hnext : ∀ d0 d1 d2 u, responseOf (next d0 d1 d2 u) = responseOf u) (s : State) :
    responseOf (busReadOr info dev reg n next s) = responseOf s := by
  unfold busReadOr
  split
  · rfl
  · exact hnext _ _ _ _
  · rfl

theorem responseOf_tRd (s : State) : responseOf (tRd s) = responseOf s := by
  refine responseOf_busReadOr (fun d0 d1 d2 u => ?_) s
  rfl

theorem responseOf_pRd (s : State) : responseOf (pRd s) = responseOf s := by
  refine responseOf_busReadOr (fun d0 d1 d2 u => ?_) s
  rfl

theorem responseOf_calRd (i : Fin 11) (s : State) : responseOf (calRd i s) = responseOf s := by
  unfold calRd
  split
  · rfl
  · rfl
  · split <;> rfl

theorem responseOf_waitFor (w : WaitKind) (s : State) : responseOf (waitFor w s) = responseOf s := by
  unfold waitFor
  split <;> rfl

theorem responseOf_timerSignal (s : State) : responseOf (timerSignal s) = responseOf s := by
  unfold timerSignal
  split <;> rfl

/-- COMPUTE raises and writes no response, or writes it and completes without error (R198). -/
theorem responseOf_compute (s : State) :
    responseOf (compute s) = responseOf s ∨ (compute s).err = 0 ∧ (compute s).busy = false := by
  unfold compute
  split
  · exact .inl rfl
  · exact .inr ⟨rfl, rfl⟩

theorem responseOf_blockMove {s : State} (h : s.phase ≠ .compute) : responseOf (blockMove s) = responseOf s := by
  unfold blockMove
  split
  next => rfl
  next i _ => exact responseOf_calRd i s
  next => rfl
  next => exact responseOf_of_untouched (untouched_tCmd s)
  next => exact responseOf_waitFor _ s
  next => exact responseOf_tRd s
  next => exact responseOf_of_untouched (untouched_pCmd _ s)
  next => exact responseOf_waitFor _ s
  next => exact responseOf_pRd s
  next hp => exact absurd hp h

theorem responseOf_hostStep {s t : State} (h : hostStep s = .next t) : responseOf t = responseOf s := by
  rcases hostStep_cases h with ⟨-, rfl⟩ | ⟨w, rest, -, -, rfl⟩ | ⟨w, rest, -, -, rfl⟩ | ⟨i, w, rest, -, -, rfl⟩
    | ⟨i, v, rest, -, -, rfl⟩ | ⟨rest, -, rfl⟩
  · rfl
  · rfl
  · exact (responseOf_of_untouched (untouched_acceptMove _ (popHost s))).trans rfl
  · rfl
  · rfl
  · split <;> rfl

/-- Settles O54: every move but COMPUTE leaves the response, and COMPUTE writes it only when it succeeds. -/
theorem responseWrittenOnlyByASuccessfulCompute : Obligations.ResponseWrittenOnlyByASuccessfulCompute := by
  unfold Obligations.ResponseWrittenOnlyByASuccessfulCompute
  intro s t h hreset
  rw [← responseOf_eq_iff]
  rcases step_cases h with ⟨-, ht⟩ | ⟨hn, rfl⟩ | ⟨-, rfl⟩ | ⟨hn, -⟩
  · exact .inl ((responseOf_hostStep ht).trans rfl)
  · by_cases hp : s.phase = .compute
    · rw [blockMove_compute (s := popSchedule s) hp]
      exact (responseOf_compute (popSchedule s)).imp_right fun ⟨herr, hbusy⟩ => ⟨hn, hp, herr, hbusy⟩
    · exact .inl ((responseOf_blockMove (s := popSchedule s) hp).trans rfl)
  · exact .inl ((responseOf_timerSignal (popSchedule s)).trans rfl)
  · exact absurd hn hreset

end Sys2Proof.Machine
end

section
/-! PROOFS. A whole reading in the fair order (log entry 10): O60. Both samples are taken in one way: a command is written,
its wait asked for and signalled, and the result read; COMPUTE then works on the two results. -/

namespace Sys2Proof.Machine

/-- An operation in progress in the fair order. -/
structure FairRun (s : State) : Prop where
  schedule : s.schedule = []
  afterSchedule : s.afterSchedule = none
  busy : s.busy = true

/-- Command x has been written to the sensor, wait w asked for and signalled, and phase p reads the result. -/
def conversionDone (x : Transaction) (w : WaitKind) (p : Phase) (s : State) : State :=
  { s with phase := p, timer := none, issued := .wait w :: x :: s.issued, bus := s.bus.tail }

/-- From T_CMD, the raw temperature ut has been sampled (R191 to R194). -/
def temperatureTaken (ut : Half) (s : State) : State :=
  { s with
    phase := .pCmd, timer := none, utL := ut, bus := s.bus.tail.tail
    issued := .busRead s.devAddr resultAddr 2 :: .wait .temperature :: .busWrite s.devAddr controlAddr 0x2E
      :: s.issued }

/-- From P_CMD, the raw pressure up has been sampled (R195 to R197). -/
def pressureTaken (up : Triple) (s : State) : State :=
  { s with
    phase := .compute, timer := none, upL := up, bus := s.bus.tail.tail
    issued := .busRead s.devAddr resultAddr 3 :: .wait (.pressure s.mode)
      :: .busWrite s.devAddr controlAddr (readPressureByte s.mode) :: s.issued }

/-- Both samples have been taken, the pressure after the temperature (R190). -/
def samplesTaken (ut : Half) (up : Triple) (s : State) : State := pressureTaken up (temperatureTaken ut s)

section
variable {s : State}

theorem FairRun.run_block {t : State} (h : FairRun s) (ht : s.timer = none) (hmove : blockMove s = t) (n : Nat) :
    Host.Core.run core (n + 1) s = Host.Core.run core n t := by
  have hn := nextAgent_fair_block h.schedule h.afterSchedule h.busy ht
  exact run_succ_of_step ((step_block hn).trans (by rw [popSchedule_nil h.schedule, hmove])) n

theorem FairRun.run_timer {w : WaitKind} (h : FairRun s) (hw : s.timer = some w) (n : Nat) :
    Host.Core.run core (n + 1) s = Host.Core.run core n (timerSignal s) := by
  have hn : nextAgent s = .timer := by simp [nextAgent_fair h.schedule h.afterSchedule, fairAgent, h.busy, hw]
  exact run_succ_of_step ((step_timer hn).trans (by rw [popSchedule_nil h.schedule])) n

/-- Command, request, signal and read: four steps, whichever the sample. -/
theorem FairRun.run_sample {x : Transaction} {w : WaitKind} {p : Phase} {t : State} (h : FairRun s)
    (ht : s.timer = none) (hcommand : blockMove s = goto p (busIssue x s))
    (hask : blockMove (goto p (busIssue x s)) = waitFor w (goto p (busIssue x s)))
    (hread : blockMove (conversionDone x w (afterWait p) s) = t) (n : Nat) :
    Host.Core.run core (n + 4) s = Host.Core.run core n t := by
  have hwaiting : FairRun (goto p (busIssue x s)) := ⟨h.schedule, h.afterSchedule, h.busy⟩
  have hasked : FairRun (requestWait w (goto p (busIssue x s))) := ⟨h.schedule, h.afterSchedule, h.busy⟩
  have hdone : FairRun (conversionDone x w (afterWait p) s) := ⟨h.schedule, h.afterSchedule, h.busy⟩
  calc Host.Core.run core (n + 4) s
    _ = Host.Core.run core (n + 3) (goto p (busIssue x s)) := h.run_block ht hcommand _
    _ = Host.Core.run core (n + 2) (requestWait w (goto p (busIssue x s))) :=
      hwaiting.run_block ht (hask.trans (waitFor_first ht)) _
    _ = Host.Core.run core (n + 1) (conversionDone x w (afterWait p) s) := hasked.run_timer rfl _
    _ = Host.Core.run core n t := hdone.run_block rfl hread _

/-- T_CMD to P_CMD. -/
theorem FairRun.run_temperature {w0 w1 w2 d0 d1 d2 : Byte} {rest : List BusAnswer} (h : FairRun s)
    (hp : s.phase = .tCmd) (ht : s.timer = none) (hbus : s.bus = .ok w0 w1 w2 :: .ok d0 d1 d2 :: rest) (n : Nat) :
    Host.Core.run core (n + 4) s = Host.Core.run core n (temperatureTaken (utPair d0 d1) s) := by
  have hcommand := (blockMove_tCmd hp).trans (busWriteOr_ok (busAnswer_cons _ hbus))
  refine h.run_sample ht hcommand (blockMove_tWait rfl) ?_ n
  exact (blockMove_tRd rfl).trans (busReadOr_ok (busAnswer_cons _ (congrArg List.tail hbus)))

/-- P_CMD to COMPUTE. -/
theorem FairRun.run_pressure {w0 w1 w2 d0 d1 d2 : Byte} {rest : List BusAnswer} (h : FairRun s)
    (hp : s.phase = .pCmd) (ht : s.timer = none) (hbus : s.bus = .ok w0 w1 w2 :: .ok d0 d1 d2 :: rest) (n : Nat) :
    Host.Core.run core (n + 4) s
      = Host.Core.run core n (pressureTaken (rawPressure (upTriple d0 d1 d2) s.mode) s) := by
  have hcommand := (blockMove_pCmd hp).trans (busWriteOr_ok (busAnswer_cons _ hbus))
  refine h.run_sample ht hcommand (blockMove_pWait rfl) ?_ n
  exact (blockMove_pRd rfl).trans (busReadOr_ok (busAnswer_cons _ (congrArg List.tail hbus)))

/-- T_CMD to the end of COMPUTE: two signals beside the block's seven steps (log entry 7). -/
theorem FairRun.run_reading {w0 w1 w2 t0 t1 t2 v0 v1 v2 p0 p1 p2 : Byte} {rest : List BusAnswer} (h : FairRun s)
    (hp : s.phase = .tCmd) (ht : s.timer = none)
    (hbus : s.bus = .ok w0 w1 w2 :: .ok t0 t1 t2 :: .ok v0 v1 v2 :: .ok p0 p1 p2 :: rest) :
    Host.Core.run core 9 s
      = .next (compute (samplesTaken (utPair t0 t1) (rawPressure (upTriple p0 p1 p2) s.mode) s)) := by
  have htaken : FairRun (temperatureTaken (utPair t0 t1) s) := ⟨h.schedule, h.afterSchedule, h.busy⟩
  have hsampled : FairRun (samplesTaken (utPair t0 t1) (rawPressure (upTriple p0 p1 p2) s.mode) s) :=
    ⟨h.schedule, h.afterSchedule, h.busy⟩
  calc Host.Core.run core 9 s
    _ = Host.Core.run core 5 (temperatureTaken (utPair t0 t1) s) := h.run_temperature hp ht hbus 5
    _ = Host.Core.run core 1 (samplesTaken (utPair t0 t1) (rawPressure (upTriple p0 p1 p2) s.mode) s) :=
      htaken.run_pressure rfl rfl (congrArg (fun l => l.tail.tail) hbus) 1
    _ = Host.Core.run core 0 (compute (samplesTaken (utPair t0 t1) (rawPressure (upTriple p0 p1 p2) s.mode) s)) :=
      hsampled.run_block rfl (blockMove_compute rfl) 0

/-- A reading computes at MODE, on the two samples (R198). -/
theorem compute_samplesTaken {ut : Half} {up : Triple} {r : Reading} (hop : isReading s.curOp.op = true)
    (hpipe : pipe s.cal ut up s.mode = .ok r) :
    compute (samplesTaken ut up s) = completeOk (writeResponse r (samplesTaken ut up s)) := by
  have hmode : computeMode (samplesTaken ut up s) = s.mode := computeMode_of_isReading hop
  exact compute_ok (hmode ▸ hpipe)

end

/-- Settles O60: the run of a reading, and PIPE's result for its samples. -/
theorem readingDeliversTheCompensatedSample : Obligations.ReadingDeliversTheCompensatedSample := by
  unfold Obligations.ReadingDeliversTheCompensatedSample
  intro s w0 w1 w2 t0 t1 t2 v0 v1 v2 p0 p1 p2 rest r up hinv hsched hafter hp hbus hup hpipe
  obtain ⟨hop, -⟩ := hinv.reading_op (by rw [hp]; rfl)
  have hraw : rawPressure (upTriple p0 p1 p2) s.mode = up :=
    BitVec.eq_of_toNat_eq (by rw [rawPressure_toNat, upTriple_toNat, hup])
  have hfair : FairRun s := ⟨hsched, hafter, hinv.busy_of_phase (by simp [hp])⟩
  have hrun := hfair.run_reading hp (hinv.timer_eq_none hp (by simp)) hbus
  rw [hraw] at hrun
  have hcompute := compute_samplesTaken (ut := utPair t0 t1) hop hpipe
  have hrest := congrArg (fun l => l.tail.tail.tail.tail) hbus
  exact ⟨_, hrun.trans (congrArg Host.Outcome.next hcompute), rfl, rfl, rfl, rfl, rfl, rfl, rfl, hrest,
    congrArg validMask, congrArg validMask, congrArg validMask, congrArg validMask, rfl⟩

end Sys2Proof.Machine
end

section
/-! PROOFS. Fetch, and the acceptance of the host operations: O9, O11, O12, O13, O15, O16, O17. An idle block answers a host
operation with its acceptance (R221), a busy one holds it (R220). -/

namespace Sys2Proof.Machine

section
variable {s : State}

/-- Where a fetched word comes from: the host, whose CMD write an idle block takes, or the phase that emits the byte. -/
theorem fetch_cases {w : CommandWord} (h : fetch s = some w) :
    (nextAgent s = .host ∧ s.busy = false ∧ ∃ v rest, s.host = .write 0 v :: rest ∧ w = .host v) ∨
    (nextAgent s = .block ∧ ∃ b, commandByte s = some b ∧ w = .sensor b) := by
  unfold fetch at h
  split at h
  · next hn =>
    split at h
    · next j v rest hh =>
      split at h
      · next hj =>
        obtain ⟨rfl, hb⟩ := hj
        exact .inl ⟨hn, hb, v, rest, hh, (Option.some.inj h).symm⟩
      · cases h
    · cases h
    · cases h
    · cases h
  · next hn =>
    obtain ⟨b, hc, rfl⟩ := Option.map_eq_some_iff.mp h
    exact .inr ⟨hn, b, hc, rfl⟩
  · cases h
  · cases h

/-- In T_CMD and P_CMD the block runs the instruction that the byte it emits decodes to. -/
theorem blockStep_exec {b : Byte} {i : Instr} (hc : commandByte s = some b) (hd : decode (.sensor b) = some i) :
    blockStep s = exec i s := by
  simp [blockStep, hc, decode_sensor_eq_some_iff.mp hd]

/-! What each acceptance amounts to, by the check R223, R224 or R228 makes. -/

theorem acceptInit_of_le {dev m : Byte} (hm : m.toNat ≤ 3) :
    acceptInit dev m s
      = startAt (.calRd 0) (latchOp { s.curOp with op := .init, dev := dev, modeReq := m } (clearStatus s)) :=
  if_neg (not_lt.mpr hm)

theorem acceptComp_of_le {ut : Half} {up : Triple} {m : Byte} (hm : m.toNat ≤ 3) :
    acceptComp ut up m s
      = startAt .compute
        { latchOp { s.curOp with op := .comp, modeReq := m, ut := ut, up := up } (clearStatus s) with
          utL := ut, upL := up } :=
  if_neg (not_lt.mpr hm)

theorem acceptReading_of_session {op : HostOp} (h : s.initDone = true) :
    acceptReading op s = startAt .tCmd (latchOp { s.curOp with op := op } (clearStatus s)) :=
  if_pos h

theorem acceptReading_of_no_session {op : HostOp} (h : s.initDone = false) :
    acceptReading op s = raise (.arithmetic 0xFF) (latchOp { s.curOp with op := op } (clearStatus s)) :=
  if_neg (Bool.eq_false_iff.mp h)

/-- R224 to R227: instruction i is the reading that CUR_OP names op. -/
def NamesReading (i : Instr) (op : HostOp) : Prop :=
  (i = .readc ∧ op = .readc) ∨ (i = .gett ∧ op = .gett) ∨ (i = .getp ∧ op = .getp) ∨ (i = .geta ∧ op = .geta)

theorem exec_reading_idle {i : Instr} {op : HostOp} (h : NamesReading i op) (hb : s.busy = false) :
    exec i s = .next (acceptReading op s) := by
  rcases h with ⟨rfl, rfl⟩ | ⟨rfl, rfl⟩ | ⟨rfl, rfl⟩ | ⟨rfl, rfl⟩
  all_goals exact whenIdle_idle hb

theorem acceptMove_host (d : HostDecoded) (s : State) : (acceptMove d s).host = s.host := by
  have h := untouched_acceptMove d s
  simp only [untouched, Prod.mk.injEq] at h
  tauto

end

/-- Settles O9: a host word is run by the host's turn on CMD, a sensor byte by the block's turn in the phase that emits it. -/
theorem stepRunsTheDecodedInstruction : Obligations.StepRunsTheDecodedInstruction := by
  unfold Obligations.StepRunsTheDecodedInstruction
  intro s w i hf hd
  rcases fetch_cases hf with ⟨hn, hb, v, rest, hh, rfl⟩ | ⟨hn, b, hc, rfl⟩
  · rw [step_hostWrite hn hh, if_pos rfl]
    exact hostCommandStep_exec (s := popSchedule s) hb hd
  · rw [step, hn]
    exact blockStep_exec (s := popSchedule s) hc hd

/-- Settles O11: `acceptInit` past its mode check. -/
theorem initStartsTheCalibrationLoad : Obligations.InitStartsTheCalibrationLoad := by
  unfold Obligations.InitStartsTheCalibrationLoad
  intro s dev m hb hm
  exact ⟨_, rfl, rfl, rfl, (whenIdle_idle hb).trans (congrArg Host.Outcome.next (acceptInit_of_le hm))⟩

/-- Settles O12: `acceptReading` with a session. -/
theorem readingsStartAtTCmd : Obligations.ReadingsStartAtTCmd := by
  unfold Obligations.ReadingsStartAtTCmd
  intro s i op hi hb hs
  exact ⟨_, rfl, (exec_reading_idle hi hb).trans (congrArg Host.Outcome.next (acceptReading_of_session hs))⟩

/-- Settles O13: `acceptComp` past its mode check, which is its only one. -/
theorem compStartsAtCompute : Obligations.CompStartsAtCompute := by
  unfold Obligations.CompStartsAtCompute
  intro s ut up m hb hm
  exact ⟨_, rfl, rfl, rfl, rfl, (whenIdle_idle hb).trans (congrArg Host.Outcome.next (acceptComp_of_le hm))⟩

/-- Settles O15: `acceptReading` without a session; XFER_CODE stays as the acceptance has cleared it (R256). -/
theorem readingWithoutSessionRaisesArithmeticError : Obligations.ReadingWithoutSessionRaisesArithmeticError := by
  unfold Obligations.ReadingWithoutSessionRaisesArithmeticError
  intro s i op hi hb hs
  exact ⟨_, rfl, (exec_reading_idle hi hb).trans (congrArg Host.Outcome.next (acceptReading_of_no_session hs))⟩

/-- Settles O16: a held write leaves the state of `popSchedule`, and no acceptance puts an access back. -/
theorem commandWriteIsHeldWhileBusy : Obligations.CommandWriteIsHeldWhileBusy := by
  unfold Obligations.CommandWriteIsHeldWhileBusy
  intro s w rest hn hh
  refine ⟨fun hb => ?_, fun hb => ⟨_, step_accept hn hh hb, ?_⟩⟩
  · rw [step_hostWrite hn hh, if_pos rfl]
    exact hostCommandStep_busy (s := popSchedule s) hb
  · rw [acceptMove_host, popHost_popSchedule hh]

/-- Settles O17: each host operation is accepted through `whenIdle`, which holds it. -/
theorem hostOperationWhileBusyChangesNothing : Obligations.HostOperationWhileBusyChangesNothing := by
  unfold Obligations.HostOperationWhileBusyChangesNothing
  intro s hb
  exact ⟨fun _ _ => whenIdle_busy hb, whenIdle_busy hb, whenIdle_busy hb, whenIdle_busy hb, whenIdle_busy hb,
    fun _ _ _ => whenIdle_busy hb⟩

end Sys2Proof.Machine
end

section
/-! PROOFS. Errors (spec/60_exceptions.md): the reserved host words and the illegal modes (O4, O14), what a failed operation
leaves (O55), and how long the error status stands (O56). -/

namespace Sys2Proof.Machine

/-! The reserved host words (R97). -/

theorem extractLsb'_eq_ofNat_iff {w : Word64} {lo n v : Nat} :
    w.extractLsb' lo n = BitVec.ofNat n v ↔ w.toNat / 2 ^ lo % 2 ^ n = v % 2 ^ n := by
  rw [BitVec.toNat_eq, BitVec.extractLsb'_toNat, BitVec.toNat_ofNat, Nat.shiftRight_eq_div_pow]

/-- R97: ILLEGAL carries the OP field. -/
theorem op_of_decodeHcmd_illegal {w : Word64} {op : BitVec 4} (h : decodeHcmd w = .illegal op) :
    op = w.extractLsb' 60 4 := by
  simp only [decodeHcmd] at h
  split_ifs at h <;> cases h <;> rfl

/-- R93 to R95: the OP of a command, and its reserved bits, which are 0. -/
theorem fields_of_decodeHcmd_instr {w : Word64} {i : Instr} (h : decodeHcmd w = .instr i) :
    (w.toNat / 2 ^ 60 = 1 ∧ w.toNat / 2 ^ 16 % 2 ^ 44 = 0)
    ∨ (2 ≤ w.toNat / 2 ^ 60 ∧ w.toNat / 2 ^ 60 ≤ 5 ∧ w.toNat % 2 ^ 60 = 0)
    ∨ (w.toNat / 2 ^ 60 = 6 ∧ w.toNat / 2 ^ 48 % 2 ^ 12 = 0) := by
  simp only [decodeHcmd, BitVec.ofNat_eq_ofNat, extractLsb'_eq_ofNat_iff] at h
  split_ifs at h <;> cases h <;> omega

/-- The OP field as ERR_INFO records it (R254). -/
theorem opField_setWidth (w : Word64) : (w.extractLsb' 60 4).setWidth 8 = BitVec.ofNat 8 (w.toNat / 2 ^ 60) := by
  apply BitVec.eq_of_toNat_eq
  rw [BitVec.toNat_setWidth, BitVec.extractLsb'_toNat, Nat.shiftRight_eq_div_pow, BitVec.toNat_ofNat]
  omega

section
variable {s t : State}

/-! Acceptance (R221). -/

theorem acceptInit_of_gt {dev m : Byte} (hm : 3 < m.toNat) :
    acceptInit dev m s
      = raise (.configuration m) (latchOp { s.curOp with op := .init, dev := dev, modeReq := m } (clearStatus s)) :=
  if_pos hm

theorem acceptComp_of_gt {ut : Half} {up : Triple} {m : Byte} (hm : 3 < m.toNat) :
    acceptComp ut up m s
      = raise (.configuration m)
        (latchOp { s.curOp with op := .comp, modeReq := m, ut := ut, up := up } (clearStatus s)) :=
  if_pos hm

/-- The status that an acceptance leaves (R221): clear when the operation has started, and what the acceptance's own raise
records when it has not. -/
structure AcceptanceStatus (t : State) : Prop where
  xferCode : t.xferCode = 0
  rspValid : t.rspValid = 0
  started : t.busy = true → t.err = 0 ∧ t.errInfo = 0
  raised : t.busy = false → t.err = 2 ∧ t.errInfo = 0xFF ∨ t.err = 3 ∨ t.err = 4

/-- R223: past its check INIT starts, else it raises a ConfigurationError. -/
theorem acceptInit_status (dev m : Byte) (s : State) : AcceptanceStatus (acceptInit dev m s) := by
  rcases le_or_gt m.toNat 3 with hm | hm
  · rw [acceptInit_of_le hm]
    exact ⟨rfl, rfl, fun _ => ⟨rfl, rfl⟩, nofun⟩
  · rw [acceptInit_of_gt hm]
    exact ⟨rfl, rfl, nofun, fun _ => .inr (.inl rfl)⟩

theorem acceptComp_status (ut : Half) (up : Triple) (m : Byte) (s : State) :
    AcceptanceStatus (acceptComp ut up m s) := by
  rcases le_or_gt m.toNat 3 with hm | hm
  · rw [acceptComp_of_le hm]
    exact ⟨rfl, rfl, fun _ => ⟨rfl, rfl⟩, nofun⟩
  · rw [acceptComp_of_gt hm]
    exact ⟨rfl, rfl, nofun, fun _ => .inr (.inl rfl)⟩

theorem acceptReading_status (op : HostOp) (s : State) : AcceptanceStatus (acceptReading op s) := by
  cases hs : s.initDone with
  | true =>
    rw [acceptReading_of_session hs]
    exact ⟨rfl, rfl, fun _ => ⟨rfl, rfl⟩, nofun⟩
  | false =>
    rw [acceptReading_of_no_session hs]
    exact ⟨rfl, rfl, nofun, fun _ => .inl ⟨rfl, rfl⟩⟩

/-- R221: whatever the word, one of the acceptances above; no host word decodes to a sensor command. -/
theorem acceptMove_status (w : Word64) (s : State) : AcceptanceStatus (acceptMove (decodeHcmd w) s) := by
  obtain ⟨htemp, hpress⟩ := decodeHcmd_ne_sensor w
  cases hd : decodeHcmd w with
  | illegal op => exact ⟨rfl, rfl, nofun, fun _ => .inr (.inr rfl)⟩
  | instr i =>
    cases i with
    | init dev m => exact acceptInit_status dev m s
    | readc | gett | getp | geta => exact acceptReading_status _ s
    | comp ut up m => exact acceptComp_status ut up m s
    | readTemp => exact absurd hd htemp
    | readPressure m => exact absurd hd (hpress m)

/-! The status of an idle block (R258). -/

/-- What R258 keeps, and BUSY, in one tuple. -/
def statusOf (s : State) := (s.err, s.errInfo, s.xferCode, s.rspValid, s.busy)

theorem statusOf_eq_iff :
    statusOf t = statusOf s ↔ t.err = s.err ∧ t.errInfo = s.errInfo ∧ t.xferCode = s.xferCode
      ∧ t.rspValid = s.rspValid ∧ t.busy = s.busy := by
  simp only [statusOf, Prod.mk.injEq]

theorem statusOf_timerSignal (s : State) : statusOf (timerSignal s) = statusOf s := by
  unfold timerSignal
  split <;> rfl

theorem blockMove_idle (hp : s.phase = .idle) : blockMove s = s := by rw [blockMove, hp]

/-- Every access of the host but an accepted CMD write leaves the status (R45, R46, R108, R220). -/
theorem statusOf_hostStep (h : hostStep s = .next t) (hcmd : ¬∃ w rest, s.host = .write 0 w :: rest) :
    statusOf t = statusOf s := by
  rcases hostStep_cases h with ⟨-, rfl⟩ | ⟨w, rest, hw, -⟩ | ⟨w, rest, hw, -⟩ | ⟨i, w, rest, -, -, rfl⟩
    | ⟨i, v, rest, -, -, rfl⟩ | ⟨rest, -, rfl⟩
  · rfl
  · exact absurd ⟨w, rest, hw⟩ hcmd
  · exact absurd ⟨w, rest, hw⟩ hcmd
  · rfl
  · rfl
  · split <;> rfl

theorem statusOf_step_idle (hp : s.phase = .idle) (h : step s = .next t) (hreset : nextAgent s ≠ .reset)
    (hcmd : ¬(nextAgent s = .host ∧ ∃ w rest, s.host = .write 0 w :: rest)) : statusOf t = statusOf s := by
  rcases step_cases h with ⟨hn, ht⟩ | ⟨-, rfl⟩ | ⟨-, rfl⟩ | ⟨hn, -⟩
  · exact (statusOf_hostStep (s := popSchedule s) ht fun hw => hcmd ⟨hn, hw⟩).trans rfl
  · rw [blockMove_idle (s := popSchedule s) hp]
    rfl
  · exact statusOf_timerSignal (popSchedule s)
  · exact absurd hn hreset

/-! Which steps end without an error. -/

theorem err_of_step_reset (hn : nextAgent s = .reset) (h : step s = .next t) : t.err = 0 := by
  obtain rfl := Host.Outcome.next.inj ((step_reset hn).symm.trans h)
  rfl

theorem err_of_step_calCommit (hn : nextAgent s = .block) (hp : s.phase = .calCommit) (h : step s = .next t) :
    t.err = 0 := by
  obtain rfl := Host.Outcome.next.inj ((step_calCommit hn hp).symm.trans h)
  rfl

end

/-- Settles O4: the word decodes to ILLEGAL with its OP field, and the acceptance raises that; BUSY and PHASE, which the raise
writes, were IDLE's before. -/
theorem reservedHostWordRaisesIllegalOperation : Obligations.ReservedHostWordRaisesIllegalOperation := by
  unfold Obligations.ReservedHostWordRaisesIllegalOperation
  intro s w rest hn hh hb hp hres
  rw [step_accept hn hh hb]
  cases hd : decodeHcmd w with
  | instr i =>
    have hfields := fields_of_decodeHcmd_instr hd
    omega
  | illegal op =>
    obtain rfl := op_of_decodeHcmd_illegal hd
    rw [acceptMove, acceptIllegal, opField_setWidth, popHost_popSchedule hh]
    simp [raise, clearStatus, OpError.code, OpError.info, OpError.xferCode, hb, hp]

/-- Settles O14: `acceptInit` and `acceptComp` on the failing side of their mode check. -/
theorem illegalModeRaisesConfigurationError : Obligations.IllegalModeRaisesConfigurationError := by
  unfold Obligations.IllegalModeRaisesConfigurationError
  intro s m hb hm
  refine ⟨fun dev => ?_, fun ut up => ?_⟩
  · exact ⟨_, rfl, rfl, rfl, (whenIdle_idle hb).trans (congrArg Host.Outcome.next (acceptInit_of_gt hm))⟩
  · exact ⟨_, rfl, rfl, rfl, rfl, (whenIdle_idle hb).trans (congrArg Host.Outcome.next (acceptComp_of_gt hm))⟩

/-- Settles O55: CAL_COMMIT, a COMPUTE that writes the response, and reset end without an error, so the step was none of them;
the rest is the invariant of the state after the step. -/
theorem failedOperationLeavesNoPartialResult : Obligations.FailedOperationLeavesNoPartialResult := by
  unfold Obligations.FailedOperationLeavesNoPartialResult
  intro s t h hst _ hidle herr
  have ht : RegInv t := stepKeepsTheInvariant s t h hst
  have hreset : nextAgent s ≠ .reset := fun hn => herr (err_of_step_reset hn hst)
  have hcommit : ¬(nextAgent s = .block ∧ s.phase = .calCommit) :=
    fun ⟨hn, hp⟩ => herr (err_of_step_calCommit hn hp hst)
  obtain ⟨hcal, hmode, hdev, hinit⟩ := sessionOf_eq_iff.mp (sessionOf_step hst hreset hcommit)
  obtain ⟨ht10, htemp, hpress, halt⟩ :=
    (responseWrittenOnlyByASuccessfulCompute s t hst hreset).resolve_right fun ⟨_, _, hok, _⟩ => herr hok
  have hvalid : t.rspValid = 0 := by
    by_contra hv
    exact herr (ht.valid_ok hv).2
  exact ⟨hcal, hmode, hdev, hinit, ht10, htemp, hpress, halt, hvalid, ht.idle_iff.mpr hidle, ht.xfer_transport⟩

/-- Settles O56: a step that accepts nothing leaves the status, and `acceptMove_status` says what an acceptance leaves. -/
theorem errorStatusPersistsUntilAcceptance : Obligations.ErrorStatusPersistsUntilAcceptance := by
  unfold Obligations.ErrorStatusPersistsUntilAcceptance
  intro s t h hb hst hreset
  refine ⟨fun hcmd => ?_, fun hn ⟨w, rest, hw⟩ => ?_⟩
  · have hstatus := statusOf_step_idle (h.idle_iff.mpr hb) hst hreset hcmd
    rwa [statusOf_eq_iff, hb] at hstatus
  · obtain rfl := Host.Outcome.next.inj ((step_accept hn hw hb).symm.trans hst)
    obtain ⟨hxfer, hvalid, hstarted, hraised⟩ := acceptMove_status w (popHost (popSchedule s))
    exact ⟨hxfer, hvalid, hstarted, hraised⟩

end Sys2Proof.Machine
end

section
/-! PROOFS. The reset event, and the operations from the state after it (R280 to R282): O37 and O38. -/

namespace Sys2Proof.Machine

/-- Settles O37: `step_reset`, item by item of `resetBlock`. -/
theorem resetEventAbandonsTheOperation : Obligations.ResetEventAbandonsTheOperation := by
  unfold Obligations.ResetEventAbandonsTheOperation
  intro s hn
  exact ⟨_, step_reset hn, fun i => Vector.getElem_replicate i.isLt, rfl, rfl, rfl, rfl, rfl, rfl, rfl, rfl, rfl, rfl, rfl,
    rfl, rfl, rfl, rfl, rfl⟩

/-- R282: COMPUTE with the constants of reset fails at the temperature divisor. -/
theorem step_compute_of_reset_cal {s : State} (hn : nextAgent s = .block) (hp : s.phase = .compute)
    (hcal : s.cal = State.reset.cal) : step s = .next (raise (.arithmetic 0x01) (popSchedule s)) := by
  obtain ⟨hzero, -⟩ := degenerateConstantsFail
  have hpipe : pipe s.cal s.utL s.upL (computeMode s) = .arithmeticError 0x01 := hcal ▸ hzero _ _ _
  rw [step_compute hn hp, compute_error (s := popSchedule s) hpipe]

/-- Settles O38: reset leaves an idle block without a session, so a reading fails and COMP and INIT start; the fair order gives
the block its COMPUTE. -/
theorem operationsAfterReset : Obligations.OperationsAfterReset := by
  unfold Obligations.OperationsAfterReset
  refine ⟨fun i hi => ?_, fun ut up m hm => ?_, fun dev m hm => ?_⟩
  · obtain ⟨op, hop⟩ : ∃ op, NamesReading i op := by
      unfold NamesReading
      rcases hi with rfl | rfl | rfl | rfl <;> simp
    obtain ⟨c, -, hexec⟩ := readingWithoutSessionRaisesArithmeticError State.reset i op hop rfl rfl
    exact ⟨_, hexec, rfl, rfl, rfl, rfl⟩
  · obtain ⟨c, -, -, -, -, hexec⟩ := compStartsAtCompute State.reset ut up m rfl hm
    exact ⟨_, _, hexec, rfl, step_compute_of_reset_cal (nextAgent_fair_block rfl rfl rfl rfl) rfl rfl,
      rfl, rfl, rfl, rfl⟩
  · obtain ⟨c, -, -, -, hexec⟩ := initStartsTheCalibrationLoad State.reset dev m rfl hm
    exact ⟨_, hexec, rfl, rfl, rfl⟩

end Sys2Proof.Machine
end

section
/-! PROOFS. R295 under its premises: O57. `stepsLeft` bounds the steps an operation still takes in the fair order; while the
bus collaborator answers, each step brings it down and moves nothing of the host's. -/

namespace Sys2Proof.Machine

/-- How many steps of the block and of the timer an operation takes from here on, if no error ends it before. -/
def stepsLeft (s : State) : Nat :=
  match s.phase with
  | .idle => 0
  | .calRd i => 12 - i.val
  | .calCommit => 1
  | .tCmd => 9
  | .tWait => if s.timer = none then 8 else 7
  | .tRd => 6
  | .pCmd => 5
  | .pWait => if s.timer = none then 4 else 3
  | .pRd => 2
  | .compute => 1

/-- What no step of the block or of the timer writes: the host's accesses, the order of the agents, and whether the bus
collaborator answers. -/
def surroundings (s : State) := (s.host, s.busSilent, s.schedule, s.afterSchedule)

/-- From s to t the operation in progress has come nearer to its end, and nothing around the block has moved. -/
structure Nearer (s t : State) : Prop where
  fewer : stepsLeft t < stepsLeft s
  around : surroundings t = surroundings s

section
variable {s t : State}

theorem surroundings_eq_iff :
    surroundings t = surroundings s ↔ t.host = s.host ∧ t.busSilent = s.busSilent ∧ t.schedule = s.schedule
      ∧ t.afterSchedule = s.afterSchedule := by
  simp only [surroundings, Prod.mk.injEq]

theorem stepsLeft_pos (hp : s.phase ≠ .idle) : 0 < stepsLeft s := by
  cases h : s.phase with
  | idle => exact absurd h hp
  | calRd i =>
    rw [stepsLeft, h]
    exact Nat.sub_pos_of_lt (by omega)
  | tWait | pWait =>
    simp only [stepsLeft, h]
    split <;> decide
  | calCommit | tCmd | tRd | pCmd | pRd | compute => simp [stepsLeft, h]

/-- An operation that ends, with an error (R256) or without (R229), has nothing left to do. -/
theorem Nearer.of_idle (hp : s.phase ≠ .idle) (ht : t.phase = .idle) (haround : surroundings t = surroundings s) :
    Nearer s t :=
  ⟨by rw [stepsLeft, ht]; exact stepsLeft_pos hp, haround⟩

/-- An answered bus write: an error ends the operation; what follows on ok is the caller's. -/
protected theorem Nearer.busWriteOr {info dev reg value : Byte} {next : State → State} (hbus : s.busSilent = false)
    (hp : s.phase ≠ .idle) (hnext : Nearer s (next (busIssue (.busWrite dev reg value) s))) :
    Nearer s (busWriteOr info dev reg value next s) := by
  obtain ⟨a, ha⟩ := busAnswer_isSome (.busWrite dev reg value) hbus
  cases a with
  | ok d0 d1 d2 => rwa [busWriteOr_ok ha]
  | error code =>
    rw [busWriteOr_error ha]
    exact .of_idle hp rfl rfl

protected theorem Nearer.busReadOr {info dev reg : Byte} {n : Nat} {next : Byte → Byte → Byte → State → State}
    (hbus : s.busSilent = false) (hp : s.phase ≠ .idle)
    (hnext : ∀ d0 d1 d2, Nearer s (next d0 d1 d2 (busIssue (.busRead dev reg n) s))) :
    Nearer s (busReadOr info dev reg n next s) := by
  obtain ⟨a, ha⟩ := busAnswer_isSome (.busRead dev reg n) hbus
  cases a with
  | ok d0 d1 d2 =>
    rw [busReadOr_ok ha]
    exact hnext d0 d1 d2
  | error code =>
    rw [busReadOr_error ha]
    exact .of_idle hp rfl rfl

theorem stepsLeft_goto_afterCalRd (i : Fin 11) (s : State) : stepsLeft (goto (afterCalRd i) s) = 11 - i.val := by
  unfold afterCalRd
  split
  next h =>
    change 12 - (i.val + 1) = 11 - i.val
    omega
  next h =>
    change 1 = 11 - i.val
    omega

/-- Each read of the load, zero-filled ones included, leaves one step less (R124 to R126). -/
protected theorem Nearer.calRd {i : Fin 11} (hbus : s.busSilent = false) (hp : s.phase = .calRd i) :
    Nearer s (calRd i s) := by
  have hstage (v : Half) : Nearer s (stageCal i v (busIssue (.busRead s.curOp.dev (calAddr i) 2) s)) := by
    refine ⟨?_, rfl⟩
    rw [stageCal, stepsLeft_goto_afterCalRd, stepsLeft, hp]
    change 11 - i.val < 12 - i.val
    omega
  obtain ⟨a, ha⟩ := busAnswer_isSome (.busRead s.curOp.dev (calAddr i) 2) hbus
  cases a with
  | ok d0 d1 d2 =>
    rw [calRd_ok ha]
    exact hstage _
  | error code =>
    cases hpol : s.policy with
    | failFast =>
      rw [calRd_error_failFast ha hpol]
      exact .of_idle (by simp [hp]) rfl rfl
    | referenceZeroFill =>
      rw [calRd_error_zeroFill ha hpol]
      exact hstage 0

protected theorem Nearer.compute (hp : s.phase = .compute) : Nearer s (compute s) := by
  have hidle : s.phase ≠ .idle := by simp [hp]
  cases hr : pipe s.cal s.utL s.upL (computeMode s) with
  | ok r =>
    rw [compute_ok hr]
    exact .of_idle hidle rfl rfl
  | arithmeticError info =>
    rw [compute_error hr]
    exact .of_idle hidle rfl rfl

/-- Every move of the block, in every phase but IDLE, when no wait is outstanding. -/
protected theorem Nearer.blockMove (hbus : s.busSilent = false) (hidle : s.phase ≠ .idle) (ht : s.timer = none) :
    Nearer s (blockMove s) := by
  unfold blockMove
  split
  next hp => exact absurd hp hidle
  next i hp => exact .calRd hbus hp
  next hp => exact .of_idle hidle rfl rfl
  next hp => exact .busWriteOr hbus hidle ⟨by simp [stepsLeft, hp, ht], rfl⟩
  next hp =>
    rw [tWait, waitFor_first ht]
    exact ⟨by simp [stepsLeft, hp, ht], rfl⟩
  next hp => exact .busReadOr hbus hidle fun _ _ _ => ⟨by simp [stepsLeft, hp], rfl⟩
  next hp => exact .busWriteOr hbus hidle ⟨by simp [stepsLeft, hp, ht], rfl⟩
  next hp =>
    rw [pWait, waitFor_first ht]
    exact ⟨by simp [stepsLeft, hp, ht], rfl⟩
  next hp => exact .busReadOr hbus hidle fun _ _ _ => ⟨by simp [stepsLeft, hp], rfl⟩
  next hp => exact .compute hp

/-- The signal of an outstanding wait, which only a WAIT phase has (R199). -/
protected theorem Nearer.timerSignal (h : RegInv s) (hw : s.timer ≠ none) : Nearer s (timerSignal s) := by
  have hphase := h.wait_of_timer hw
  obtain ⟨w, hw⟩ := Option.ne_none_iff_exists'.mp hw
  rw [timerSignal_some hw]
  rcases hphase with hp | hp
  · exact ⟨by simp [stepsLeft, afterWait, hp, hw], rfl⟩
  · exact ⟨by simp [stepsLeft, afterWait, hp, hw], rfl⟩

/-- One step of the fair order: the signal of an outstanding wait, else the block's move. -/
theorem FairRun.step_nearer (h : FairRun s) (hinv : RegInv s) (hbus : s.busSilent = false) :
    ∃ t, step s = .next t ∧ Nearer s t := by
  obtain ⟨hsched, hafter, hb⟩ := h
  have hidle : s.phase ≠ .idle := by simp [hinv.idle_iff, hb]
  by_cases ht : s.timer = none
  · have hst := step_block (nextAgent_fair_block hsched hafter hb ht)
    rw [popSchedule_nil hsched] at hst
    exact ⟨_, hst, .blockMove hbus hidle ht⟩
  · have hst := step_timer (s := s) (by simp [nextAgent_fair hsched hafter, fairAgent, hb, Option.isSome_iff_ne_none, ht])
    rw [popSchedule_nil hsched] at hst
    exact ⟨_, hst, .timerSignal hinv ht⟩

/-- By strong induction on `stepsLeft`: the operation ends in at least one step and at most `stepsLeft` of them. -/
theorem FairRun.ends (h : FairRun s) (hinv : RegInv s) (hbus : s.busSilent = false) :
    ∃ n, 0 < n ∧ n ≤ stepsLeft s
      ∧ ∃ t, Host.Core.run core n s = .next t ∧ t.busy = false ∧ surroundings t = surroundings s := by
  induction hk : stepsLeft s using Nat.strong_induction_on generalizing s with
  | h k ih =>
    subst hk
    obtain ⟨t, hst, hfewer, haround⟩ := h.step_nearer hinv hbus
    cases hb : t.busy with
    | false => exact ⟨1, one_pos, by omega, t, run_succ_of_step hst 0, hb, haround⟩
    | true =>
      obtain ⟨-, hsilent, hsched, hafter⟩ := surroundings_eq_iff.mp haround
      have hfair : FairRun t := ⟨hsched.trans h.schedule, hafter.trans h.afterSchedule, hb⟩
      obtain ⟨n, -, hn, u, hrun, hend, hsame⟩ :=
        ih _ hfewer hfair (stepKeepsTheInvariant s t hinv hst) (hsilent.trans hbus) rfl
      exact ⟨n + 1, n.succ_pos, by omega, u, (run_succ_of_step hst n).trans hrun, hend, hsame.trans haround⟩

/-- R220: in the fair order an idle block takes the CMD write that has waited for it. -/
theorem step_accept_fair {w : Word64} {rest : List HostAccess} (hsched : s.schedule = [])
    (hafter : s.afterSchedule = none) (hb : s.busy = false) (hw : s.host = .write 0 w :: rest) :
    ∃ u, step s = .next u ∧ u.host = rest := by
  have hn : nextAgent s = .host := by simp [nextAgent_fair hsched hafter, fairAgent, hb]
  exact ⟨_, step_accept hn hw hb, by rw [acceptMove_host, popHost_host, popSchedule_host, hw, List.tail_cons]⟩

end

/-- Settles O57: `FairRun.ends`, with `stepsLeft` at the three first phases, and `step_accept_fair` at the end. -/
theorem operationsCompleteInBoundedSteps : Obligations.OperationsCompleteInBoundedSteps := by
  unfold Obligations.OperationsCompleteInBoundedSteps
  intro s hinv hsched hafter hbus hb
  obtain ⟨n, hpos, hn, t, hrun, hend, haround⟩ := FairRun.ends ⟨hsched, hafter, hb⟩ hinv hbus
  obtain ⟨hhost, -, htsched, htafter⟩ := surroundings_eq_iff.mp haround
  refine ⟨n, fun hp => ?_, fun hp => ?_, fun hp => ?_, t, hrun, hend, fun w rest hw => ?_⟩
  · rwa [stepsLeft, hp] at hn
  · rwa [stepsLeft, hp] at hn
  · rw [stepsLeft, hp] at hn
    exact le_antisymm hn hpos
  · exact step_accept_fair (htsched.trans hsched) (htafter.trans hafter) hend (hhost.trans hw)

end Sys2Proof.Machine
end

section
/-! PROOFS. R295 and I12 without the premises: O58. A step that changes nothing can be taken any number of times. -/

namespace Sys2Proof.Machine

/-- The phases whose step is a bus transaction (R124, R190). -/
def AsksTheBus (p : Phase) : Prop := (∃ i : Fin 11, p = .calRd i) ∨ p = .tCmd ∨ p = .tRd ∨ p = .pCmd ∨ p = .pRd

section
variable {s : State}

/-- R64, R65, I12: the block's move without an answer. -/
theorem blockMove_silent (hbus : s.bus = []) (hsilent : s.busSilent = true) (hp : AsksTheBus s.phase) :
    blockMove s = s := by
  have hnone (x : Transaction) : busAnswer x s = none := busAnswer_silent x hbus hsilent
  rcases hp with ⟨i, hp⟩ | hp | hp | hp | hp
  · rw [blockMove, hp]
    exact calRd_none (hnone _)
  · rw [blockMove_tCmd hp]
    exact busWriteOr_none (hnone _)
  · rw [blockMove_tRd hp]
    exact busReadOr_none (hnone _)
  · rw [blockMove_pCmd hp]
    exact busWriteOr_none (hnone _)
  · rw [blockMove_pRd hp]
    exact busReadOr_none (hnone _)

theorem step_silent (hn : nextAgent s = .block) (hbus : s.bus = []) (hsilent : s.busSilent = true)
    (hp : AsksTheBus s.phase) : step s = .next (popSchedule s) := by
  rw [step_block hn, blockMove_silent (s := popSchedule s) hbus hsilent hp]

theorem run_of_step_self (h : step s = .next s) (n : Nat) : Host.Core.run core n s = .next s := by
  induction n with
  | zero => rfl
  | succ n ih => exact (run_succ_of_step h n).trans ih

/-- R108: a host alone that polls a busy block sees one STATUS value after another, and nothing else moves. -/
theorem step_poll_alone {rest : List HostAccess} (hsched : s.schedule = []) (hafter : s.afterSchedule = some .host)
    (hb : s.busy = true) (hh : s.host = .waitIdle :: rest) : step s = .next (seen 0x01 (statusWord s) s) := by
  rw [step_waitIdle (nextAgent_after hsched hafter) hh, popSchedule_nil hsched, hostPollStep, if_pos hb]
  rfl

theorem run_poll_alone {rest : List HostAccess} (hsched : s.schedule = []) (hafter : s.afterSchedule = some .host)
    (hb : s.busy = true) (hh : s.host = .waitIdle :: rest) (n : Nat) :
    Host.Core.run core n s
      = .next { s with hostSeen := List.replicate n (0x01, statusWord s) ++ s.hostSeen } := by
  induction n generalizing s with
  | zero => rfl
  | succ n ih =>
    have hrest := ih (s := seen 0x01 (statusWord s) s) hsched hafter hb hh
    refine (run_succ_of_step (step_poll_alone hsched hafter hb hh) n).trans (hrest.trans ?_)
    rw [List.replicate_succ', List.append_assoc]
    rfl

end

/-- Settles O58: each way to wait is a step that changes nothing, but for what a polling host has seen. -/
theorem unansweredOperationWaits : Obligations.UnansweredOperationWaits := by
  unfold Obligations.UnansweredOperationWaits
  refine ⟨fun s hn hbus hsilent hp => step_silent hn hbus hsilent hp,
    fun s n hsched hafter hb ht hbus hsilent hp => run_of_step_self ?_ n,
    fun s n hsched hafter hp hw => run_of_step_self ?_ n,
    fun s w rest n hsched hafter hb hh => run_of_step_self ?_ n,
    fun s v rest n hsched hafter hb hh hv => ?_⟩
  · rw [step_silent (nextAgent_fair_block hsched hafter hb ht) hbus hsilent hp, popSchedule_nil hsched]
  · rw [step_block (nextAgent_after hsched hafter), popSchedule_nil hsched, blockMove_waiting hp hw]
  · obtain ⟨hheld, -⟩ := commandWriteIsHeldWhileBusy s w rest (nextAgent_after hsched hafter) hh
    exact (hheld hb).trans (congrArg Host.Outcome.next (popSchedule_nil hsched))
  · obtain rfl : statusWord s = v := ReadResult.value.inj hv
    exact run_poll_alone hsched hafter hb hh n

end Sys2Proof.Machine
end
